-- ==== Sys2Proof/Word.lean ====
section
/-! DEFINITION. The word types of LEDENC: register words, access descriptors, line levels, and the two encoded formats. -/

namespace Sys2Proof

/-- A register or command word: every register is 32 bits wide (R16). -/
abbrev Word := BitVec 32

/-- The 9-bit descriptor of one host access, SZ[8:7] WR[6] OFF[5:0] (R54). -/
abbrev Desc := BitVec 9

/-- A byte offset inside the 64-byte aperture (R38). -/
abbrev Offset := BitVec 6

/-- A channel value, an operand field, or one byte lane of the host's bus. -/
abbrev Byte := BitVec 8

/-- The logic level of DOUT (R11). -/
inductive Level where
  | low
  | high
deriving DecidableEq, Repr

/-- The two formats the block decodes, and nothing else (R53). -/
inductive Encoded where
  /-- One host access: its descriptor and its data word. Only a write has a data word; on a read the word is not looked at. -/
  | bus (desc : Desc) (data : Word)
  /-- The data word of a write that selects CMD. -/
  | cmd (word : Word)
deriving DecidableEq, Repr

/-- Which descriptor check failed (R54, in the order of its checks). -/
inductive BusErrorCause where
  /-- The access is not 32 bits wide (R41). -/
  | size
  /-- The offset is not a multiple of 4 (R42). -/
  | alignment
  /-- No register stands at the offset (R39). -/
  | offset
deriving DecidableEq, Repr

/-- Which command-word check failed (R82, in the order of its checks). -/
inductive CmdErrorCause where
  /-- A reserved opcode, 0x3 to 0xF (R84). -/
  | opcode
  /-- A nonzero reserved bit (R85). -/
  | reservedBits
deriving DecidableEq, Repr

/-- `BusError(off)` (R10, R111), with the check that failed. -/
structure BusError where
  cause : BusErrorCause
  off : Offset
deriving DecidableEq, Repr

/-- Why the decoder rejects what it is given: by name, one error only (R113). -/
inductive DecodeError where
  | bus (e : BusError)
  | cmd (cause : CmdErrorCause)
deriving DecidableEq, Repr

end Sys2Proof
end

