-- ==== Sys2Proof/Machine/Input.lean ====
section
/-! DEFINITION. What can happen to the block in one step. -/

namespace Sys2Proof.Machine

/-- One thing that happens to the block: a step of one of its two agents (R12), or the reset input (R122). -/
inductive Input where
  /-- The host's access, as its bus delivers it: a descriptor, and a data word that only a write uses (R53, R54). -/
  | access (desc : Desc) (data : Word)
  /-- One tick of the sequencer (R100). -/
  | tick
  /-- The platform asserts reset (R122). -/
  | reset
deriving DecidableEq, Repr, Inhabited

end Sys2Proof.Machine
end

