-- ==== Sys2Proof/Config.lean ====
section
/-! DEFINITION. What one instance of LEDENC fixes (R6), the two parameters the spec leaves open, and the free order of
what happens to the block. -/

namespace Sys2Proof.Config

/-- `W`, the board's width: columns, and the range of x (R6). -/
def W : Nat := 10

/-- `H`, the board's height: rows, the range of y, LEDs per strip column (R6). -/
def H : Nat := 20

/-- `N_LED`, the physical LED count (R6, D31). -/
def nLed : Nat := W * H

/-- `BITS_PER_CHANNEL` (R6). -/
def bitsPerChannel : Nat := 8

/-- `C`, the channels per LED: 4 for RGBW, 3 for RGB (R6, R21). -/
def channels (rgbw : Bool) : Nat := if rgbw then 4 else 3

/-- The limits a model checks on the parameters (R6). -/
def boardOk (w h : Nat) : Bool := 1 ≤ w && w ≤ 255 && 1 ≤ h && h ≤ 255

/-- The number of the 64-byte block of the host's address space that the aperture fills. OPEN in the spec (D2), so no
value of it can be proved. -/
opaque baseBlock : Nat

/-- `BASE`, the bus address of the aperture: open, and aligned to 64 bytes (R38). -/
def base : Nat := 64 * baseBlock

/-- `T_UNIT`, the real time of one tick. OPEN in the spec (D13), and no rule depends on its value. -/
opaque tUnit : Nat

/-- What happens to the block at each turn once the settled inputs are used up: host accesses, ticks and resets in any order
and without end. "A model leaves the interleaving free" (R48), so this is a free value, and no entry of it can be proved
(log entry 1). -/
opaque environment : Nat → Machine.Input

end Sys2Proof.Config
end

