-- ==== Sys2Proof/Syntax.lean ====
section
/-! DEFINITION. The instruction syntax of LEDENC: one constructor for each row of spec/opcode_table.json. -/

namespace Sys2Proof

/-- What a host can ask of the block: the 18 register accesses (format BUS, R64 to R81) and the three commands
(format CMD, R83, R87, R95). A write carries its data word; MAP carries its cell as the natural numbers the
assembler is given (R62), which WellFormed bounds. -/
inductive Instr where
  | rdCtrl
  | wrCtrl (d : Word)
  | rdStatus
  | wrStatus (d : Word)
  | rdT0
  | wrT0 (d : Word)
  | rdT1
  | wrT1 (d : Word)
  | rdTrst
  | wrTrst (d : Word)
  | rdColor
  | wrColor (d : Word)
  | rdCmd
  | wrCmd (d : Word)
  | rdIndex
  | wrIndex (d : Word)
  | rdInfo
  | wrInfo (d : Word)
  | nop
  | map (x y : Nat)
  | send
deriving DecidableEq, Repr

end Sys2Proof
end

