-- ==== Sys2Proof/WellFormed.lean ====
section
/-! DEFINITION. Which instructions an encoding exists for. -/

namespace Sys2Proof

/-- "In `MAP x, y` the assembler refuses x or y outside 0 to 255" (R62): the X and Y fields have 8 bits (R55). Every
other instruction is well formed with any data word; a reserved command word is legal data of a WR CMD, with the defined
effect of R84 and R85. -/
def Instr.wellFormed (i : Instr) : Bool :=
  match i with
  | .map x y => x ≤ 255 && y ≤ 255
  | .rdCtrl | .rdStatus | .rdT0 | .rdT1 | .rdTrst | .rdColor | .rdCmd | .rdIndex | .rdInfo => true
  | .wrCtrl _ | .wrStatus _ | .wrT0 _ | .wrT1 _ | .wrTrst _ | .wrColor _ | .wrCmd _ | .wrIndex _ | .wrInfo _ => true
  | .nop | .send => true

end Sys2Proof
end

