-- ==== Sys2Proof/Decode.lean ====
section
/-! DEFINITION. The decoder of both formats, total and rejecting by name (R54, R82), and the encoder written from the
same tables. -/

namespace Sys2Proof

/-- SZ, the access size: 0b10 is 32 bits (R54). -/
def descSize (desc : Desc) : BitVec 2 := desc.extractLsb' 7 2

/-- WR: the access is a write (R54). -/
def descWrite (desc : Desc) : Bool := desc.getLsbD 6

/-- OFF, the byte offset from BASE (R54). -/
def descOffset (desc : Desc) : Offset := desc.extractLsb' 0 6

/-- The access to the register at an offset, for the nine defined offsets of R16. -/
def accessAt (off : Offset) (write : Bool) (data : Word) : Option Instr :=
  if off = 0x00 then some (if write then .wrCtrl data else .rdCtrl)
  else if off = 0x04 then some (if write then .wrStatus data else .rdStatus)
  else if off = 0x08 then some (if write then .wrT0 data else .rdT0)
  else if off = 0x0C then some (if write then .wrT1 data else .rdT1)
  else if off = 0x10 then some (if write then .wrTrst data else .rdTrst)
  else if off = 0x14 then some (if write then .wrColor data else .rdColor)
  else if off = 0x18 then some (if write then .wrCmd data else .rdCmd)
  else if off = 0x1C then some (if write then .wrIndex data else .rdIndex)
  else if off = 0x20 then some (if write then .wrInfo data else .rdInfo)
  else none

/-- Decoding of a BUS descriptor with its data word: size, then alignment, then offset (R54, R63). -/
def decodeBus (desc : Desc) (data : Word) : Except BusError Instr :=
  if descSize desc ≠ 0b10 then .error ⟨.size, descOffset desc⟩
  else if (descOffset desc).extractLsb' 0 2 ≠ 0 then .error ⟨.alignment, descOffset desc⟩
  else
    match accessAt (descOffset desc) (descWrite desc) data with
    | some i => .ok i
    | none => .error ⟨.offset, descOffset desc⟩

/-- The commands a command word can name (R56). -/
inductive Command where
  | nop
  | map (x y : Nat)
  | send
deriving DecidableEq, Repr

/-- The instruction a command is. -/
def Command.instr (c : Command) : Instr :=
  match c with
  | .nop => .nop
  | .map x y => .map x y
  | .send => .send

/-- OP, the opcode of a command word (R55). -/
def cmdOp (word : Word) : BitVec 4 := word.extractLsb' 0 4

/-- RSV0, reserved (R55). -/
def cmdRsv0 (word : Word) : BitVec 4 := word.extractLsb' 4 4

/-- X, the column operand of MAP (R55, R57). -/
def cmdX (word : Word) : Byte := word.extractLsb' 8 8

/-- Y, the row operand of MAP (R55, R57). -/
def cmdY (word : Word) : Byte := word.extractLsb' 16 8

/-- RSV1, reserved (R55). -/
def cmdRsv1 (word : Word) : Byte := word.extractLsb' 24 8

/-- Decoding of a command word, its checks in the order of R82. -/
def decodeCommand (word : Word) : Except CmdErrorCause Command :=
  if 3 ≤ (cmdOp word).toNat then .error .opcode
  else if cmdRsv1 word ≠ 0 ∨ cmdRsv0 word ≠ 0 then .error .reservedBits
  else if cmdOp word ≠ 1 ∧ word.extractLsb' 8 16 ≠ 0 then .error .reservedBits
  else if cmdOp word = 0 then .ok .nop
  else if cmdOp word = 1 then .ok (.map (cmdX word).toNat (cmdY word).toNat)
  else .ok .send

/-- The decoder of both formats (R53). -/
def decode (e : Encoded) : Except DecodeError Instr :=
  match e with
  | .bus desc data => (decodeBus desc data).mapError .bus
  | .cmd word => ((decodeCommand word).map Command.instr).mapError .cmd

/-- The descriptor of a 32-bit access: SZ = 0b10 over WR over OFF (R54). -/
def desc32 (write : Bool) (off : Offset) : Desc := (0b10#2 ++ BitVec.ofBool write) ++ off

/-- A 32-bit read at an offset. A read carries no data word; the encoder puts 0 there. -/
def encodeRead (off : Offset) : Encoded := .bus (desc32 false off) 0

/-- A 32-bit write of a data word at an offset. -/
def encodeWrite (off : Offset) (data : Word) : Encoded := .bus (desc32 true off) data

/-- A command word from its fields, most significant first: RSV1 = 0, Y, X, RSV0 = 0, OP (R55). -/
def commandWord (op : BitVec 4) (x y : Nat) : Word :=
  0#8 ++ BitVec.ofNat 8 y ++ BitVec.ofNat 8 x ++ 0#4 ++ op

/-- The words of an instruction, from the offsets of R16 and the opcodes of R56. -/
def encode (i : Instr) : Encoded :=
  match i with
  | .rdCtrl => encodeRead 0x00
  | .wrCtrl d => encodeWrite 0x00 d
  | .rdStatus => encodeRead 0x04
  | .wrStatus d => encodeWrite 0x04 d
  | .rdT0 => encodeRead 0x08
  | .wrT0 d => encodeWrite 0x08 d
  | .rdT1 => encodeRead 0x0C
  | .wrT1 d => encodeWrite 0x0C d
  | .rdTrst => encodeRead 0x10
  | .wrTrst d => encodeWrite 0x10 d
  | .rdColor => encodeRead 0x14
  | .wrColor d => encodeWrite 0x14 d
  | .rdCmd => encodeRead 0x18
  | .wrCmd d => encodeWrite 0x18 d
  | .rdIndex => encodeRead 0x1C
  | .wrIndex d => encodeWrite 0x1C d
  | .rdInfo => encodeRead 0x20
  | .wrInfo d => encodeWrite 0x20 d
  | .nop => .cmd (commandWord 0 0 0)
  | .map x y => .cmd (commandWord 1 x y)
  | .send => .cmd (commandWord 2 0 0)

/-- A word numbered as spec/opcode_table.json numbers it. The table gives a CMD row 32 bits, and a BUS row the 9 bits of
its descriptor, 16 in whole bytes, with the write data (which the table gives no bits) 0. -/
def tableWord (nbits w : Nat) : Option Encoded :=
  if nbits = 32 then
    if w < 2 ^ 32 then some (.cmd (BitVec.ofNat 32 w)) else none
  else if w < 2 ^ 9 then some (.bus (BitVec.ofNat 9 w) 0)
  else none

/-- What the decoder reads from a word of the opcode table. -/
def decodeTableWord (nbits w : Nat) : Option Instr :=
  match tableWord nbits w with
  | some e => (decode e).toOption
  | none => none

end Sys2Proof
end

