-- ==== Sys2Proof/Machine/State.lean ====
section
/-! DEFINITION. The state of LEDENC (R37), what is observed of it, and the reasons a step stops. -/

namespace Sys2Proof.Machine

/-- A segment: DOUT holds the level for that many ticks (R11). -/
abbrev Segment := Level × Nat

/-- What can be observed of the block: exactly the three things of R13. -/
inductive Obs where
  /-- The value a host read returns. -/
  | read (v : Word)
  /-- A host access ended in BusError. -/
  | busError (e : BusError)
  /-- The level DOUT drives in a tick. -/
  | line (level : Level)
deriving DecidableEq, Repr

/-- The block's state, field for field as R37 lists it, and after it three fields of the model's own: the inputs that are
already settled, oldest first; how many of the free inputs that come after them have been taken (log entry 1); and what has
been observed so far, newest first (log entry 3). -/
structure State where
  ctrl_flip : Bool
  ctrl_rgbw : Bool
  t0h : BitVec 16
  t0l : BitVec 16
  t1h : BitVec 16
  t1l : BitVec 16
  treset : BitVec 16
  color : BitVec 32
  index : BitVec 16
  map_err : Bool
  tx_reject : Bool
  cmd_err : Bool
  seq : List Segment
  dout : Level
  inputs : List Input
  turn : Nat
  obs : List Obs
deriving DecidableEq, Repr

/-- The one reason a step stops. -/
inductive Fault where
  /-- Raised by the step, for an access that fails the descriptor checks of R54: "A model shall treat a BusError as a fault
  of the host's access" (R111). Safe: the block itself goes on (R115), unchanged by the access; `State.errorResponse` is
  the state it goes on from (log entry 2). -/
  | busError (e : BusError)
deriving DecidableEq, Repr

/-- Why an instruction has no meaning. -/
inductive Refusal where
  /-- Raised by exec's arm for an instruction not modelled yet; no arm does. Safe: the model stops. -/
  | notModelled (mnemonic : String)
deriving DecidableEq, Repr

/-- The block right after reset: every value is the one R36 states. No input is settled, no free one has been taken, and
nothing has been observed (log entries 1 and 3). -/
def State.reset : State where
  ctrl_flip := false
  ctrl_rgbw := false
  t0h := 0
  t0l := 0
  t1h := 0
  t1l := 0
  treset := 800
  color := 0
  index := 0
  map_err := false
  tx_reject := false
  cmd_err := false
  seq := []
  dout := .low
  inputs := []
  turn := 0
  obs := []

end Sys2Proof.Machine
end

