-- ==== Sys2Proof/Machine/Bus.lean ====
section
/-! DEFINITION. How the host's bus reaches the block: which addresses, and with which descriptor (R10, R38, R40, R54). -/

namespace Sys2Proof.Machine

/-- The offset of an address the bus routes to LEDENC: "exactly the addresses in the aperture" (R38). -/
def route (addr : Nat) : Option Offset :=
  if Config.base ≤ addr ∧ addr < Config.base + 64 then some (BitVec.ofNat 6 (addr - Config.base)) else none

/-- SZ of an access of that many bytes (R54). -/
def sizeCode (bytes : Nat) : BitVec 2 :=
  if bytes = 1 then 0b00 else if bytes = 2 then 0b01 else if bytes = 4 then 0b10 else 0b11

/-- The descriptor of an access (R54). -/
def descOf (bytes : Nat) (write : Bool) (off : Offset) : Desc := (sizeCode bytes ++ BitVec.ofBool write) ++ off

/-- `MemRead(addr, bytes)` as it reaches the block, if it does (R10, R38). -/
def memRead (addr bytes : Nat) : Option Input :=
  (route addr).map (fun off => .access (descOf bytes false off) 0)

/-- `MemWrite(addr, bytes, v)` as it reaches the block, if it does (R10, R38). -/
def memWrite (addr bytes : Nat) (v : Word) : Option Input :=
  (route addr).map (fun off => .access (descOf bytes true off) v)

/-- The access that carries encoded words: a BUS access is itself, and a command word is the data of a write to CMD, whose
descriptor is 0x158 (R53, R77). -/
def inputOf (e : Encoded) : Input :=
  match e with
  | .bus desc data => .access desc data
  | .cmd word => .access (desc32 true 0x18) word

end Sys2Proof.Machine
end

