-- ==== Sys2Proof/Machine/Ops.lean ====
section
/-! DEFINITION. The named operations over the state: what an access, a tick or a reset may write. -/

namespace Sys2Proof.Machine

/-- What a step or a meaning answers. -/
abbrev Result := Host.Outcome State Fault Refusal

/-- Something becomes observable (R13). -/
def State.observe (o : Obs) (s : State) : State := { s with obs := o :: s.obs }

/-- The inputs that are settled. -/
def State.withInputs (rest : List Input) (s : State) : State := { s with inputs := rest }

/-- The input number `k` from here, numbered from 0: a settled one, and after those a free one (R48, log entry 1). -/
def State.inputAt (s : State) (k : Nat) : Input :=
  match s.inputs[k]? with
  | some e => e
  | none => Config.environment (s.turn + (k - s.inputs.length))

/-- The input that the next step serves. -/
def State.nextInput (s : State) : Input :=
  match s.inputs with
  | [] => Config.environment s.turn
  | e :: _ => e

/-- The state with that input taken, and nothing else changed. -/
def State.taken (s : State) : State :=
  { s with
    inputs := s.inputs.tail
    turn := match s.inputs with
      | [] => s.turn + 1
      | _ :: _ => s.turn }

/-- A host read returns `v`. It has no other effect: "No read has a side effect" (R44). -/
def State.answer (v : Word) (s : State) : State := s.observe (.read v)

/-- The fields of CTRL (R18). -/
def State.setCtrl (flip rgbw : Bool) (s : State) : State := { s with ctrl_flip := flip, ctrl_rgbw := rgbw }

/-- The fields of T0 (R22). -/
def State.setT0 (high low : BitVec 16) (s : State) : State := { s with t0h := high, t0l := low }

/-- The fields of T1 (R23). -/
def State.setT1 (high low : BitVec 16) (s : State) : State := { s with t1h := high, t1l := low }

/-- The field of TRST (R24). -/
def State.setTrst (ticks : BitVec 16) (s : State) : State := { s with treset := ticks }

/-- COLOR, all of whose bits are fields (R25). -/
def State.setColor (tuple : Word) (s : State) : State := { s with color := tuple }

/-- The field of INDEX (R27). -/
def State.setIndex (idx : BitVec 16) (s : State) : State := { s with index := idx }

/-- SEQ, the segments still to be driven (R33). -/
def State.setSeq (segs : List Segment) (s : State) : State := { s with seq := segs }

/-- One tick drives `level` and leaves `segs` still to be driven (R100). The level is observed (R13). -/
def State.drive (level : Level) (segs : List Segment) (s : State) : State :=
  { s with seq := segs, dout := level, obs := .line level :: s.obs }

/-- The reset input: every piece of the block's state takes its value of R36, at once (R122). The inputs still to come and
what has been observed are not the block's, and stay (log entry 10). -/
def State.applyReset (s : State) : State :=
  { State.reset with inputs := s.inputs, turn := s.turn, obs := s.obs }

/-- `raise BusError(off)` (R10): the one error that ends an access. LEDENC has no trap entry (R114); this is the shared
operation that takes the place of one. -/
def raiseBusError (e : BusError) : Result := .fault (.busError e)

/-- What an access that ended in BusError leaves: no register, no flag, not SEQ, not DOUT changed; a read returns no
data; the host has seen the error response (R111). -/
def State.errorResponse (e : BusError) (s : State) : State := s.observe (.busError e)

end Sys2Proof.Machine
end

