-- ==== Sys2Proof/Machine/Flags.lean ====
section
/-! DEFINITION. The four flags of STATUS (R19): how each is computed, set and cleared. -/

namespace Sys2Proof.Machine

/-- STATUS.BUSY: "`STATUS.BUSY = (SEQ != [])`. It is not a separate flip-flop" (R29). -/
def State.busy (s : State) : Bool := !s.seq.isEmpty

/-- `MAP_ERR <- 1` (R87). -/
def State.raiseMapErr (s : State) : State := { s with map_err := true }

/-- `TX_REJECT <- 1` (R95). -/
def State.raiseTxReject (s : State) : State := { s with tx_reject := true }

/-- `CMD_ERR <- 1` (R84, R85). -/
def State.raiseCmdErr (s : State) : State := { s with cmd_err := true }

/-- Write one to clear: each error bit is cleared where the data word has a 1, and BUSY is not written (R67). -/
def State.clearErrors (d : Word) (s : State) : State :=
  { s with
    map_err := s.map_err && !d.getLsbD 1
    tx_reject := s.tx_reject && !d.getLsbD 2
    cmd_err := s.cmd_err && !d.getLsbD 3 }

end Sys2Proof.Machine
end

