-- ==== Sys2Proof/Machine/Operands.lean ====
section
/-! DEFINITION. The operand forms: the word each register reads as, the halves and channels of a data word, and the byte
lanes of the host's bus. -/

namespace Sys2Proof.Machine

/-- `d[15:0]`. -/
def lowHalf (d : Word) : BitVec 16 := d.extractLsb' 0 16

/-- `d[31:16]`. -/
def highHalf (d : Word) : BitVec 16 := d.extractLsb' 16 16

/-- The red channel, `COLOR[7:0]` (R25). -/
def red (color : Word) : Byte := color.extractLsb' 0 8

/-- The green channel, `COLOR[15:8]` (R25). -/
def green (color : Word) : Byte := color.extractLsb' 8 8

/-- The blue channel, `COLOR[23:16]` (R25). -/
def blue (color : Word) : Byte := color.extractLsb' 16 8

/-- The white channel, `COLOR[31:24]` (R25). -/
def white (color : Word) : Byte := color.extractLsb' 24 8

/-- CTRL as it reads: `zext_32({CTRL.RGBW, CTRL.FLIP_Y})` (R64). -/
def State.ctrlWord (s : State) : Word := (BitVec.ofBool s.ctrl_rgbw ++ BitVec.ofBool s.ctrl_flip).setWidth 32

/-- STATUS as it reads: `zext_32({CMD_ERR, TX_REJECT, MAP_ERR, BUSY})` (R66). -/
def State.statusWord (s : State) : Word :=
  (BitVec.ofBool s.cmd_err ++ BitVec.ofBool s.tx_reject ++ BitVec.ofBool s.map_err ++ BitVec.ofBool s.busy).setWidth 32

/-- T0 as it reads (R68). -/
def State.t0Word (s : State) : Word := s.t0l ++ s.t0h

/-- T1 as it reads (R70). -/
def State.t1Word (s : State) : Word := s.t1l ++ s.t1h

/-- TRST as it reads (R72). -/
def State.trstWord (s : State) : Word := s.treset.setWidth 32

/-- COLOR as it reads (R74). -/
def State.colorWord (s : State) : Word := white s.color ++ blue s.color ++ green s.color ++ red s.color

/-- INDEX as it reads (R78). -/
def State.indexWord (s : State) : Word := s.index.setWidth 32

/-- INFO as it reads: a constant of the instance, `{HEIGHT, WIDTH}` (R28, R80). -/
def infoWord : Word := (BitVec.ofNat 8 Config.H ++ BitVec.ofNat 8 Config.W).setWidth 32

/-- Byte lane `k` of a word: bits `[8k+7 : 8k]` (R40). -/
def lane (v : Word) (k : Nat) : Byte := v.extractLsb' (8 * k) 8

/-- The word whose four byte lanes, lowest address first, are these (R40). -/
def ofLanes (b0 b1 b2 b3 : Byte) : Word := b3 ++ b2 ++ b1 ++ b0

end Sys2Proof.Machine
end

