-- ==== Sys2Proof/Machine/Encoder.lean ====
section
/-! DEFINITION. The pulse encoder: one colour tuple becomes an ordered list of timed pulses, and those become segments
(R11, R95 to R99). -/

namespace Sys2Proof.Machine

/-- A pulse (R11): a High and a Low run for one bit, or the reset/latch Low. -/
inductive Pulse where
  | bit (high low : Nat)
  | reset (ticks : Nat)
deriving DecidableEq, Repr

/-- `cfg`, the values SEND takes at its CMD write (R95, R99). -/
structure SendCfg where
  rgbw : Bool
  t0h : BitVec 16
  t0l : BitVec 16
  t1h : BitVec 16
  t1l : BitVec 16
  trst : BitVec 16
  color : Word
deriving DecidableEq, Repr

/-- The snapshot of R99. CTRL.FLIP_Y is not part of it. -/
def State.snapshot (s : State) : SendCfg where
  rgbw := s.ctrl_rgbw
  t0h := s.t0h
  t0l := s.t0l
  t1h := s.t1h
  t1l := s.t1l
  trst := s.treset
  color := s.color

/-- The channels sent, in wire order: green, red, blue, then white for RGBW only (R96). -/
def SendCfg.chans (cfg : SendCfg) : List Byte :=
  if cfg.rgbw then [green cfg.color, red cfg.color, blue cfg.color, white cfg.color]
  else [green cfg.color, red cfg.color, blue cfg.color]

/-- The bits of a channel, most significant first (R96). -/
def msbFirst (ch : Byte) : List Bool := (List.range Config.bitsPerChannel).reverse.map ch.getLsbD

/-- All the bits sent, in wire order. -/
def SendCfg.bits (cfg : SendCfg) : List Bool := cfg.chans.flatMap msbFirst

/-- The pulse of one bit (R96). -/
def SendCfg.bitPulse (cfg : SendCfg) (b : Bool) : Pulse :=
  if b then .bit cfg.t1h.toNat cfg.t1l.toNat else .bit cfg.t0h.toNat cfg.t0l.toNat

/-- `encode(cfg)`: the pulses of the bits sent, then the reset/latch pulse (R96). -/
def SendCfg.pulses (cfg : SendCfg) : List Pulse := cfg.bits.map cfg.bitPulse ++ [.reset cfg.trst.toNat]

/-- `segments(p)` (R11). -/
def Pulse.segments (p : Pulse) : List Segment :=
  match p with
  | .bit high low => [(.high, high), (.low, low)]
  | .reset ticks => [(.low, ticks)]

/-- `nonzero(S)`: the segments of S whose duration is not 0, in order (R95, R98). -/
def nonzero (segs : List Segment) : List Segment := segs.filter (fun p => p.2 ≠ 0)

/-- What an accepted SEND loads into SEQ (R95). -/
def SendCfg.transmission (cfg : SendCfg) : List Segment := nonzero (cfg.pulses.flatMap Pulse.segments)

/-- `TOTAL`, the ticks a list of segments lasts (R101). -/
def totalTicks (segs : List Segment) : Nat := (segs.map Prod.snd).sum

end Sys2Proof.Machine
end

