-- ==== Sys2Proof/Machine/Mapper.lean ====
section
/-! DEFINITION. The coordinate mapper: pure functions over natural numbers, as the spec writes them (R9, R88, R92). -/

namespace Sys2Proof.Machine

/-- `y'`: the row, flipped when `flip` is set (R20, R88). -/
def flipRow (h y : Nat) (flip : Bool) : Nat := if flip then h - 1 - y else y

/-- `map(x, y, f)` on a board of height `h`: a column starts at `x * H`; even columns run one way, odd columns the
other (R88). -/
def mapIndex (h x y : Nat) (flip : Bool) : Nat :=
  if x % 2 = 0 then x * h + flipRow h y flip else x * h + (h - 1 - flipRow h y flip)

/-- The row `y'` before the flip that index `i` stands for in its column (R92). -/
def unmapRow (h i : Nat) : Nat := if i / h % 2 = 0 then i % h else h - 1 - i % h

/-- `unmap(i, f)`: the cell wired to LED index `i`. No command computes it (R92). -/
def unmapIndex (h i : Nat) (flip : Bool) : Nat × Nat := (i / h, flipRow h (unmapRow h i) flip)

end Sys2Proof.Machine
end

