-- ==== Sys2Proof/Machine/Commands.lean ====
section
/-! DEFINITION. The commands, and the write to CMD that runs one (R77, R82 to R87, R95). -/

namespace Sys2Proof.Machine

/-- NOP: nothing (R83). -/
def execNop (s : State) : Result := .next s

/-- MAP x, y: INDEX takes the cell's LED index, or MAP_ERR is set for a cell outside the board (R87). -/
def execMap (x y : Nat) (s : State) : Result :=
  if Config.W ≤ x ∨ Config.H ≤ y then .next s.raiseMapErr
  else .next (s.setIndex (BitVec.ofNat 16 (mapIndex Config.H x y s.ctrl_flip)))

/-- SEND: refused while a transmission is in progress, else it loads SEQ from the snapshot (R95). -/
def execSend (s : State) : Result :=
  if s.busy then .next s.raiseTxReject else .next (s.setSeq s.snapshot.transmission)

/-- `execute_command(d)` (R82): a word that fails a check sets CMD_ERR and runs nothing (R84, R85). -/
def executeCommand (d : Word) (s : State) : Result :=
  match decodeCommand d with
  | .error _ => .next s.raiseCmdErr
  | .ok .nop => execNop s
  | .ok (.map x y) => execMap x y s
  | .ok .send => execSend s

/-- WR CMD: it executes the command in the same access (R77). -/
def execWrCmd (d : Word) (s : State) : Result := executeCommand d s

end Sys2Proof.Machine
end

