-- ==== Sys2Proof/Machine/Registers.lean ====
section
/-! DEFINITION. The register accesses but WR CMD: one meaning for each row (R64 to R76, R78 to R81). -/

namespace Sys2Proof.Machine

/-- RD CTRL (R64). -/
def execRdCtrl (s : State) : Result := .next (s.answer s.ctrlWord)

/-- WR CTRL (R65). -/
def execWrCtrl (d : Word) (s : State) : Result := .next (s.setCtrl (d.getLsbD 0) (d.getLsbD 1))

/-- RD STATUS (R66). -/
def execRdStatus (s : State) : Result := .next (s.answer s.statusWord)

/-- WR STATUS (R67). -/
def execWrStatus (d : Word) (s : State) : Result := .next (s.clearErrors d)

/-- RD T0 (R68). -/
def execRdT0 (s : State) : Result := .next (s.answer s.t0Word)

/-- WR T0 (R69). -/
def execWrT0 (d : Word) (s : State) : Result := .next (s.setT0 (lowHalf d) (highHalf d))

/-- RD T1 (R70). -/
def execRdT1 (s : State) : Result := .next (s.answer s.t1Word)

/-- WR T1 (R71). -/
def execWrT1 (d : Word) (s : State) : Result := .next (s.setT1 (lowHalf d) (highHalf d))

/-- RD TRST (R72). -/
def execRdTrst (s : State) : Result := .next (s.answer s.trstWord)

/-- WR TRST (R73). -/
def execWrTrst (d : Word) (s : State) : Result := .next (s.setTrst (lowHalf d))

/-- RD COLOR (R74). -/
def execRdColor (s : State) : Result := .next (s.answer s.colorWord)

/-- WR COLOR (R75). -/
def execWrColor (d : Word) (s : State) : Result := .next (s.setColor d)

/-- RD CMD: it reads as zero and repeats no command (R76). -/
def execRdCmd (s : State) : Result := .next (s.answer 0)

/-- RD INDEX (R78). -/
def execRdIndex (s : State) : Result := .next (s.answer s.indexWord)

/-- WR INDEX: "the write is ignored" (R79). -/
def execWrIndex (_d : Word) (s : State) : Result := .next s

/-- RD INFO (R80). -/
def execRdInfo (s : State) : Result := .next (s.answer infoWord)

/-- WR INFO: "the write is ignored" (R81). -/
def execWrInfo (_d : Word) (s : State) : Result := .next s

end Sys2Proof.Machine
end

