-- ==== Sys2Proof/Machine/Dispatch.lean ====
section
/-! DEFINITION. One arm for each instruction. -/

namespace Sys2Proof.Machine

def exec (i : Instr) (s : State) : Host.Outcome State Fault Refusal :=
  match i with
  | .rdCtrl => Sys2Proof.Machine.execRdCtrl s
  | .wrCtrl d => Sys2Proof.Machine.execWrCtrl d s
  | .rdStatus => Sys2Proof.Machine.execRdStatus s
  | .wrStatus d => Sys2Proof.Machine.execWrStatus d s
  | .rdT0 => Sys2Proof.Machine.execRdT0 s
  | .wrT0 d => Sys2Proof.Machine.execWrT0 d s
  | .rdT1 => Sys2Proof.Machine.execRdT1 s
  | .wrT1 d => Sys2Proof.Machine.execWrT1 d s
  | .rdTrst => Sys2Proof.Machine.execRdTrst s
  | .wrTrst d => Sys2Proof.Machine.execWrTrst d s
  | .rdColor => Sys2Proof.Machine.execRdColor s
  | .wrColor d => Sys2Proof.Machine.execWrColor d s
  | .rdCmd => Sys2Proof.Machine.execRdCmd s
  | .wrCmd d => Sys2Proof.Machine.execWrCmd d s
  | .rdIndex => Sys2Proof.Machine.execRdIndex s
  | .wrIndex d => Sys2Proof.Machine.execWrIndex d s
  | .rdInfo => Sys2Proof.Machine.execRdInfo s
  | .wrInfo d => Sys2Proof.Machine.execWrInfo d s
  | .nop => Sys2Proof.Machine.execNop s
  | .map x y => Sys2Proof.Machine.execMap x y s
  | .send => Sys2Proof.Machine.execSend s

end Sys2Proof.Machine
end

