-- ==== Sys2Proof/Machine/Sequencer.lean ====
section
/-! DEFINITION. The line sequencer, the protocol timer (R100). -/

namespace Sys2Proof.Machine

/-- One sequencer tick (R100). -/
def tick (s : State) : State :=
  match s.seq with
  | [] => s.drive .low []
  | (lv, d) :: rest => s.drive lv (if d = 1 then rest else (lv, d - 1) :: rest)

/-- `n` ticks, with nothing between them. -/
def ticks (n : Nat) (s : State) : State :=
  match n with
  | 0 => s
  | k + 1 => ticks k (tick s)

/-- The level that tick number `k` from `s` drives, the ticks being numbered from 0 (R101). -/
def levelAt (s : State) (k : Nat) : Level := (tick (ticks k s)).dout

/-- The real time of `n` ticks, in the unit T_UNIT is counted in (R102). -/
def realTime (n : Nat) : Nat := n * Config.tUnit

end Sys2Proof.Machine
end

