-- ==== Sys2Proof/Machine/Step.lean ====
section
/-! DEFINITION. One step of the machine: the next input is served, whole and at one instant (R43, R46, R48). -/

namespace Sys2Proof.Machine

/-- Serve one input. An access that passes the descriptor checks runs its instruction; one that fails raises BusError
(R63, R111). -/
def serve (e : Input) (s : State) : Result :=
  match e with
  | .access desc data =>
    match decodeBus desc data with
    | .ok i => exec i s
    | .error err => raiseBusError err
  | .tick => .next (tick s)
  | .reset => .next s.applyReset

/-- One step. Settled inputs come first; after them the outside world's free choice goes on without end (log entry 1). -/
def step (s : State) : Host.Outcome State Fault Refusal := serve s.nextInput s.taken

/-- `s` with the table word as the host's next access (log entry 9). A number that is no word of the row's format is
never on the bus, and leaves `s` as it is. -/
def State.withFetchWord (s : State) (nbits w : Nat) : State :=
  match tableWord nbits w with
  | some e => s.withInputs (inputOf e :: s.inputs)
  | none => s

/-- The block's own view of a step: a BusError does not stop it, "No error stops the block" (R115). The access that failed
is gone, its error response has been seen, and nothing else changed (R111). -/
def stepOn (s : State) : State :=
  match step s with
  | .next t => t
  | .fault (.busError e) => s.taken.errorResponse e
  | .refused _ => s

end Sys2Proof.Machine
end

