-- ==== Sys2Proof/Machine/Pseudo.lean ====
section
/-! DEFINITION. The host assembler's pseudo-instructions and their expansions (R62). They are the host's shorthand for register
accesses; no word of the block encodes one. -/

namespace Sys2Proof.Machine

/-- The pseudo-instructions of R62. SETCOLOR and SENDC each have a form with and one without a white channel. -/
inductive Pseudo where
  | nop
  | map (x y : Nat)
  | send
  | setColor (r g b : Nat)
  | setColorW (r g b w : Nat)
  | sendC (r g b : Nat)
  | sendCW (r g b w : Nat)
  | setT0 (h l : Nat)
  | setT1 (h l : Nat)
  | setTrst (r : Nat)
  | clrErr
  | waitIdle
deriving DecidableEq, Repr

/-- What the assembler accepts: cells and channel values 0 to 255, durations 0 to 65535 (R62). -/
def Pseudo.accepted (p : Pseudo) : Bool :=
  match p with
  | .nop | .send | .clrErr | .waitIdle => true
  | .map x y => x ≤ 255 && y ≤ 255
  | .setColor r g b | .sendC r g b => r ≤ 255 && g ≤ 255 && b ≤ 255
  | .setColorW r g b w | .sendCW r g b w => r ≤ 255 && g ≤ 255 && b ≤ 255 && w ≤ 255
  | .setT0 h l | .setT1 h l => h ≤ 65535 && l ≤ 65535
  | .setTrst r => r ≤ 65535

/-- `(w << 24) | (b << 16) | (g << 8) | r` (R62). -/
def colorTuple (r g b w : Nat) : Word :=
  BitVec.ofNat 32 w <<< 24 ||| BitVec.ofNat 32 b <<< 16 ||| BitVec.ofNat 32 g <<< 8 ||| BitVec.ofNat 32 r

/-- `(l << 16) | h` (R62). -/
def timingWord (h l : Nat) : Word := BitVec.ofNat 32 l <<< 16 ||| BitVec.ofNat 32 h

/-- `(y << 16) | (x << 8) | 0x1` (R62). -/
def mapWord (x y : Nat) : Word := BitVec.ofNat 32 y <<< 16 ||| BitVec.ofNat 32 x <<< 8 ||| 1

/-- The accesses a pseudo-instruction stands for. WAITIDLE is one pass of its loop; `waitAgain` says whether the host takes the
branch back. -/
def Pseudo.accesses (p : Pseudo) : List Instr :=
  match p with
  | .nop => [.wrCmd 0x00000000]
  | .map x y => [.wrCmd (mapWord x y)]
  | .send => [.wrCmd 0x00000002]
  | .setColor r g b => [.wrColor (colorTuple r g b 0)]
  | .setColorW r g b w => [.wrColor (colorTuple r g b w)]
  | .sendC r g b => [.wrColor (colorTuple r g b 0), .wrCmd 0x00000002]
  | .sendCW r g b w => [.wrColor (colorTuple r g b w), .wrCmd 0x00000002]
  | .setT0 h l => [.wrT0 (timingWord h l)]
  | .setT1 h l => [.wrT1 (timingWord h l)]
  | .setTrst r => [.wrTrst (BitVec.ofNat 32 r)]
  | .clrErr => [.wrStatus 0x0000000E]
  | .waitIdle => [.rdStatus]

/-- The expansion, or none where the assembler refuses (R62). -/
def Pseudo.expand (p : Pseudo) : Option (List Instr) := if p.accepted then some p.accesses else none

/-- `GOTO L IF v[0] == 1`, the host's own branch in WAITIDLE (R61, R62). -/
def waitAgain (v : Word) : Bool := v.getLsbD 0

/-- The accesses of a host program as the block's inputs, in program order (R46). -/
def schedule (program : List Instr) : List Input := program.map (fun i => inputOf (encode i))

end Sys2Proof.Machine
end

