-- ==== Sys2Proof/Machine/Schedule.lean ====
section
/-! DEFINITION. Runs without end, under any order of host accesses, ticks and resets, and the weak fairness of the sequencer
(R48). `step` takes its order from State and Config; here the order is an argument, so that a claim can range over all. -/

namespace Sys2Proof.Machine

/-- An endless order of what happens to the block: the free interleaving of R48. -/
abbrev Schedule := Nat → Input

/-- What one input leaves of the block, which no error stops (R115): a BusError leaves its error response and no more (R111). -/
def obey (e : Input) (s : State) : State :=
  match serve e s with
  | .next t => t
  | .fault (.busError err) => s.errorResponse err
  | .refused _ => s

/-- The block after the first `n` inputs of a schedule. -/
def runUnder (sched : Schedule) (n : Nat) (s : State) : State :=
  match n with
  | 0 => s
  | k + 1 => obey (sched k) (runUnder sched k s)

/-- "weak fairness of the sequencer: while SEQ is not empty, a tick eventually happens" (R48): from every point after which SEQ
is never empty again, a tick comes. -/
def WeaklyFair (sched : Schedule) (s : State) : Prop :=
  ∀ n, (∀ m, n ≤ m → (runUnder sched m s).seq ≠ []) → ∃ m, n ≤ m ∧ sched m = .tick

/-- `n` steps of the machine, going on after a BusError. -/
def stepsOn (n : Nat) (s : State) : State :=
  match n with
  | 0 => s
  | k + 1 => stepOn (stepsOn k s)

end Sys2Proof.Machine
end

