-- ==== Sys2Proof/Safety.lean ====
section
/-! DEFINITION. What counts as a safe state, a legal access and a host that keeps its duties, in the terms the claims use. -/

namespace Sys2Proof.Machine

/-- An element of SEQ as R33 bounds it: a duration from 1 to 65535. -/
abbrev SegmentOk (p : Segment) : Prop := 1 ≤ p.2 ∧ p.2 ≤ 65535

/-- Every element of SEQ is as R33 bounds it. -/
abbrev SeqOk (segs : List Segment) : Prop := ∀ p ∈ segs, SegmentOk p

/-- The invariant of the block: SEQ's elements and its largest length (R33), and an INDEX that names an LED (R27, R90). -/
abbrev State.Inv (s : State) : Prop := SeqOk s.seq ∧ s.seq.length ≤ 65 ∧ s.index.toNat < Config.nLed

/-- An access a correct host makes: 32 bits wide, aligned, at one of the nine defined offsets 0x00 to 0x20 (R134, R54). -/
def legalAccess (desc : Desc) : Bool :=
  desc.toNat / 128 = 2 && desc.toNat % 64 % 4 = 0 && desc.toNat % 64 ≤ 0x20

/-- Ticks and resets are always legal; an access is legal by its descriptor. -/
def Input.legal (e : Input) : Bool :=
  match e with
  | .access desc _ => legalAccess desc
  | .tick | .reset => true

/-- The next `n` inputs are legal: a host that makes legal accesses only (R134's last row), for that long. -/
abbrev State.LegalFor (s : State) (n : Nat) : Prop := ∀ k, k < n → (s.inputAt k).legal = true

/-- The next `n` inputs are ticks: the host is quiet, for that long. -/
abbrev State.QuietFor (s : State) (n : Nat) : Prop := ∀ k, k < n → s.inputAt k = .tick

/-- The access that sends: a write of the SEND word to CMD (R77, R95). -/
def Input.isSend (e : Input) : Bool := e = .access 0x158 0x00000002

/-- The host keeps the duty of R127 here: it does not send while a transmission is in progress. -/
def State.hostWaits (s : State) : Bool := !(s.nextInput.isSend && s.busy)

end Sys2Proof.Machine
end

