-- ==== Sys2Proof/Certificates/Slice0/Obligations.lean ====
section
/-! DEFINITION. The statements for the provers. Each says which rule of spec/ it formalises; bits, fields and formulas are
written out here as the rule writes them, not by the model's own helpers, wherever that is possible. Three forms are the model's
and not the spec's, in every statement below: the value a read returns is the newest entry of `obs` (log entry 3), the next
access, tick or reset is `nextInput`, settled or free, and `taken` is the state without it (log entry 1), and a
BusError is a fault of `step` (log entry 2). -/

open Sys2Proof Sys2Proof.Machine

/-! ## Register accesses (40_register_access.md) -/

/-- R64: RD CTRL returns FLIP_Y in bit 0, RGBW in bit 1 and 0 elsewhere, and changes nothing; with the rule's example. -/
def Obligations.RdCtrlReturnsFlipAndVariant : Prop :=
  ∀ (s : State) (data : Word), decodeBus 0x100 data = .ok .rdCtrl ∧
    (∃ v : Word, exec .rdCtrl s = .next { s with obs := .read v :: s.obs } ∧
      ∀ i, v.getLsbD i = if i = 0 then s.ctrl_flip else if i = 1 then s.ctrl_rgbw else false) ∧
    (∃ t, exec (.wrCtrl 0xFFFFFFFF) s = .next t ∧
      exec .rdCtrl t = .next { t with obs := .read 0x00000003 :: t.obs })

/-- R65: WR CTRL sets FLIP_Y and RGBW from bits 0 and 1 and changes nothing else, busy or not; the next MAP uses the new
FLIP_Y and the next SEND the new RGBW; with the rule's example. -/
def Obligations.WrCtrlSetsFlipAndVariant : Prop :=
  ∀ (s : State) (d : Word), decodeBus 0x140 d = .ok (.wrCtrl d) ∧
    ∃ t, exec (.wrCtrl d) s = .next t ∧
      t = { s with ctrl_flip := d.getLsbD 0, ctrl_rgbw := d.getLsbD 1 } ∧
      (∀ x y, x < 10 → y < 20 → ∃ u, exec (.map x y) t = .next u ∧
        u.index.toNat = mapIndex 20 x y (d.getLsbD 0)) ∧
      (s.seq = [] → ∃ u cfg, exec .send t = .next u ∧ u.seq = SendCfg.transmission cfg ∧ cfg.rgbw = d.getLsbD 1 ∧
        cfg.color = s.color) ∧
      (d = 0x00000002 → t.ctrl_rgbw = true ∧ t.ctrl_flip = false)

/-- R66 and R29: RD STATUS returns BUSY, which is 1 exactly when SEQ is not empty, and the three error bits, clears none
of them, and changes nothing; with the rule's example. -/
def Obligations.RdStatusReturnsBusyAndErrors : Prop :=
  ∀ (s : State) (data : Word), decodeBus 0x104 data = .ok .rdStatus ∧
    (∃ v : Word, exec .rdStatus s = .next { s with obs := .read v :: s.obs } ∧
      (v.getLsbD 0 = true ↔ s.seq ≠ []) ∧ v.getLsbD 1 = s.map_err ∧ v.getLsbD 2 = s.tx_reject ∧
      v.getLsbD 3 = s.cmd_err ∧ ∀ i, 4 ≤ i → v.getLsbD i = false) ∧
    (s.seq = [] → s.map_err = false → s.tx_reject = false → s.cmd_err = false → s.snapshot.transmission ≠ [] →
      ∃ t, exec .send s = .next t ∧ exec .rdStatus t = .next { t with obs := .read 0x00000001 :: t.obs })

/-- R67: WR STATUS clears each error bit where the data word has a 1, leaves it elsewhere, and leaves BUSY and SEQ alone;
with the rule's example. -/
def Obligations.WrStatusClearsWhereOne : Prop :=
  ∀ (s : State) (d : Word), decodeBus 0x144 d = .ok (.wrStatus d) ∧
    (∃ t, exec (.wrStatus d) s = .next t ∧
      t = { s with
        map_err := if d.getLsbD 1 then false else s.map_err
        tx_reject := if d.getLsbD 2 then false else s.tx_reject
        cmd_err := if d.getLsbD 3 then false else s.cmd_err } ∧
      (t.seq ≠ [] ↔ s.seq ≠ [])) ∧
    (s.statusWord = 0x0000000E → ∃ t, exec (.wrStatus 0x00000004) s = .next t ∧
      exec .rdStatus t = .next { t with obs := .read 0x0000000A :: t.obs })

/-- R68 and R70: RD T0 and RD T1 return the Low count over the High count, and change nothing; with the rules' examples. -/
def Obligations.RdTimingsReturnLowOverHigh : Prop :=
  ∀ (s : State) (data : Word), decodeBus 0x108 data = .ok .rdT0 ∧ decodeBus 0x10C data = .ok .rdT1 ∧
    exec .rdT0 s =
      .next { s with obs := .read ((s.t0l.setWidth 32 <<< 16) ||| s.t0h.setWidth 32) :: s.obs } ∧
    exec .rdT1 s =
      .next { s with obs := .read ((s.t1l.setWidth 32 <<< 16) ||| s.t1h.setWidth 32) :: s.obs } ∧
    exec .rdT0 State.reset = .next { State.reset with obs := [.read 0x00000000] } ∧
    (∃ t, exec (.wrT1 0x00040008) s = .next t ∧
      exec .rdT1 t = .next { t with obs := .read 0x00040008 :: t.obs })

/-- R69 and R71: WR T0 and WR T1 set the High count from bits 15:0 and the Low count from bits 31:16, refuse no value, and
change nothing else, a transmission in progress included; equal timings make 0 bits and 1 bits alike; with the examples. -/
def Obligations.WrTimingsSetHighAndLow : Prop :=
  (∀ (s : State) (d : Word), decodeBus 0x148 d = .ok (.wrT0 d) ∧ decodeBus 0x14C d = .ok (.wrT1 d) ∧
    exec (.wrT0 d) s = .next { s with t0h := d.extractLsb' 0 16, t0l := d.extractLsb' 16 16 } ∧
    exec (.wrT1 d) s = .next { s with t1h := d.extractLsb' 0 16, t1l := d.extractLsb' 16 16 } ∧
    exec (.wrT0 0x00080004) s = .next { s with t0h := 4, t0l := 8 } ∧
    exec (.wrT1 0x00040008) s = .next { s with t1h := 8, t1l := 4 }) ∧
  ∀ cfg : SendCfg, cfg.t0h = cfg.t1h → cfg.t0l = cfg.t1l → cfg.bitPulse false = cfg.bitPulse true

/-- R72: RD TRST returns TRESET zero-extended, and changes nothing; after reset it returns 0x320. -/
def Obligations.RdTrstReturnsReset : Prop :=
  ∀ (s : State) (data : Word), decodeBus 0x110 data = .ok .rdTrst ∧
    (∃ v : Word, exec .rdTrst s = .next { s with obs := .read v :: s.obs } ∧ v.toNat = s.treset.toNat ∧
      ∀ i, 16 ≤ i → v.getLsbD i = false) ∧
    exec .rdTrst State.reset = .next { State.reset with obs := [.read 0x00000320] }

/-- R73: WR TRST sets TRESET from bits 15:0, ignores the rest and changes nothing else; with TRESET = 0 a SEND loads the bits'
segments and no reset/latch segment; with the rule's example. -/
def Obligations.WrTrstSetsReset : Prop :=
  ∀ (s : State) (d : Word), decodeBus 0x150 d = .ok (.wrTrst d) ∧
    (∃ t, exec (.wrTrst d) s = .next t ∧ t = { s with treset := d.extractLsb' 0 16 } ∧
      (s.seq = [] → d.extractLsb' 0 16 = 0 → ∃ u, exec .send t = .next u ∧
        u.seq = nonzero ((t.snapshot.bits.map t.snapshot.bitPulse).flatMap Pulse.segments))) ∧
    exec (.wrTrst 0xFFFF0320) s = .next { s with treset := 800 }

/-- R74: RD COLOR returns the four channels, WH also when CTRL.RGBW = 0, and changes nothing; with the rule's example. -/
def Obligations.RdColorReturnsChannels : Prop :=
  ∀ (s : State) (data : Word), decodeBus 0x114 data = .ok .rdColor ∧
    (∃ v : Word, exec .rdColor s = .next { s with obs := .read v :: s.obs } ∧
      v = ((white s.color).setWidth 32 <<< 24) ||| ((blue s.color).setWidth 32 <<< 16) |||
        ((green s.color).setWidth 32 <<< 8) ||| (red s.color).setWidth 32) ∧
    (∃ i t, Pseudo.expand (.setColor 255 0 128) = some [i] ∧ exec i s = .next t ∧
      exec .rdColor t = .next { t with obs := .read 0x008000FF :: t.obs })

/-- R75: WR COLOR sets the four channels from their bytes and changes nothing else, a transmission in progress included; with
the rule's example. -/
def Obligations.WrColorSetsChannels : Prop :=
  ∀ (s : State) (d : Word), decodeBus 0x154 d = .ok (.wrColor d) ∧
    ∃ t, exec (.wrColor d) s = .next t ∧ t = { s with color := t.color } ∧
      red t.color = d.extractLsb' 0 8 ∧ green t.color = d.extractLsb' 8 8 ∧ blue t.color = d.extractLsb' 16 8 ∧
      white t.color = d.extractLsb' 24 8 ∧
      (d = 0x01000000 → white t.color = 1 ∧ red t.color = 0 ∧ green t.color = 0 ∧ blue t.color = 0)

/-- R77: WR CMD executes the command its data word is: it answers as that command does, and a word that is no command sets
CMD_ERR; it never raises BusError; with the rule's example. -/
def Obligations.WrCmdExecutesTheCommand : Prop :=
  ∀ (s : State) (d : Word), decodeBus 0x158 d = .ok (.wrCmd d) ∧
    (∀ i, decode (.cmd d) = .ok i → exec (.wrCmd d) s = exec i s) ∧
    (∀ e, decode (.cmd d) = .error e → exec (.wrCmd d) s = .next { s with cmd_err := true }) ∧
    (∃ t, exec (.wrCmd d) s = .next t) ∧
    exec (.wrCmd 0x00000002) s = exec .send s

/-- R78 (pseudocode, example, and what a failed MAP leaves, for every operand a command word carries): RD INDEX returns IDX
zero-extended and changes nothing. -/
def Obligations.RdIndexReturnsIndex : Prop :=
  ∀ (s : State) (data : Word), decodeBus 0x11C data = .ok .rdIndex ∧
    (∃ v : Word, exec .rdIndex s = .next { s with obs := .read v :: s.obs } ∧ v.toNat = s.index.toNat) ∧
    (s.ctrl_flip = false → ∃ t, exec (.map 1 19) s = .next t ∧
      exec .rdIndex t = .next { t with obs := .read 0x00000014 :: t.obs }) ∧
    (∀ x y, x ≤ 255 → y ≤ 255 → 10 ≤ x ∨ 20 ≤ y → ∃ t, exec (.map x y) s = .next t ∧ t.index = s.index)

/-- R79 and R81: writes to INDEX and INFO are ignored: nothing at all changes, so each register reads its old value. -/
def Obligations.WritesToReadOnlyIgnored : Prop :=
  ∀ (s : State) (d : Word), decodeBus 0x15C d = .ok (.wrIndex d) ∧ decodeBus 0x160 d = .ok (.wrInfo d) ∧
    exec (.wrIndex d) s = .next s ∧ exec (.wrInfo d) s = .next s ∧
    exec .rdIndex s = .next { s with obs := .read (s.index.setWidth 32) :: s.obs } ∧
    exec .rdInfo s = .next { s with obs := .read 0x0000140A :: s.obs }

/-- R76 and R80: RD CMD returns 0 at all times and repeats no command; RD INFO returns the board's height over its width, 0x140A;
neither changes anything. -/
def Obligations.RdCmdAndInfoReturnConstants : Prop :=
  ∀ (s : State) (data : Word), decodeBus 0x118 data = .ok .rdCmd ∧ decodeBus 0x120 data = .ok .rdInfo ∧
    exec .rdCmd s = .next { s with obs := .read 0x00000000 :: s.obs } ∧
    exec .rdInfo s = .next { s with obs := .read (((20 : Word) <<< 8) ||| 10) :: s.obs } ∧
    exec .rdInfo s = .next { s with obs := .read 0x0000140A :: s.obs }

/-- R44's first sentence, over every read at once: a legal access whose WR bit is 0 returns a value and changes nothing else,
and a second one with nothing between returns the same value. -/
def Obligations.ReadsHaveNoSideEffect : Prop :=
  ∀ (s : State) (desc : Desc) (d1 d2 : Word), s.nextInput = .access desc d1 → s.taken.nextInput = .access desc d2 →
    legalAccess desc = true → desc.getLsbD 6 = false →
    ∃ v t, step s = .next t ∧ t = { s.taken with obs := .read v :: s.obs } ∧
      step t = .next { t.taken with obs := .read v :: t.obs }

/-! ## Commands (41_command_dispatch.md, 42_mapper.md, 43_encoder.md) -/

/-- R83: NOP leaves all state unchanged, busy or not; its word is 0; a word with OP = 0 and any other bit set is a CMD_ERR
word. -/
def Obligations.NopChangesNothing : Prop :=
  ∀ (s : State) (d : Word), decodeCommand 0x00000000 = .ok .nop ∧ exec .nop s = .next s ∧
    exec (.wrCmd 0x00000000) s = .next s ∧
    (d.toNat % 16 = 0 → d ≠ 0 → exec (.wrCmd d) s = .next { s with cmd_err := true })

/-- R84 and R85: a reserved opcode, or a nonzero reserved bit with opcode 0x0 to 0x2, sets CMD_ERR and changes nothing else:
no INDEX, no MAP_ERR, no TX_REJECT, no transmission; with the rules' examples. -/
def Obligations.ReservedCommandWordsSetCmdErrOnly : Prop :=
  ∀ (s : State) (d : Word),
    (3 ≤ d.toNat % 16 → exec (.wrCmd d) s = .next { s with cmd_err := true }) ∧
    (d.toNat % 16 < 3 → d.toNat / 2 ^ 24 ≠ 0 ∨ d.toNat / 2 ^ 4 % 2 ^ 4 ≠ 0 ∨
        (d.toNat % 16 ≠ 1 ∧ d.toNat / 2 ^ 8 % 2 ^ 16 ≠ 0) →
      exec (.wrCmd d) s = .next { s with cmd_err := true }) ∧
    exec (.wrCmd 0x0000000F) s = .next { s with cmd_err := true } ∧
    exec (.wrCmd 0x00000012) s = .next { s with cmd_err := true } ∧
    exec (.wrCmd 0x00010002) s = .next { s with cmd_err := true }

/-- R82: a command word that passes the checks runs NOP, MAP or SEND by its opcode, MAP with x and y from bits 15:8 and 23:16;
one that fails a check sets CMD_ERR and nothing else; and no command word sets more than one error bit. -/
def Obligations.CommandDispatchByOpcode : Prop :=
  ∀ (s : State) (d : Word),
    (exec (.wrCmd d) s =
      if 3 ≤ d.toNat % 16 then .next { s with cmd_err := true }
      else if d.toNat / 2 ^ 24 ≠ 0 ∨ d.toNat / 2 ^ 4 % 2 ^ 4 ≠ 0 then .next { s with cmd_err := true }
      else if d.toNat % 16 ≠ 1 ∧ d.toNat / 2 ^ 8 % 2 ^ 16 ≠ 0 then .next { s with cmd_err := true }
      else if d.toNat % 16 = 0 then exec .nop s
      else if d.toNat % 16 = 1 then exec (.map (d.toNat / 2 ^ 8 % 2 ^ 8) (d.toNat / 2 ^ 16 % 2 ^ 8)) s
      else exec .send s) ∧
    ∃ t, exec (.wrCmd d) s = .next t ∧
      ((t.tx_reject = s.tx_reject ∧ t.cmd_err = s.cmd_err ∧ (s.map_err = true → t.map_err = true)) ∨
       (t.map_err = s.map_err ∧ t.cmd_err = s.cmd_err ∧ (s.tx_reject = true → t.tx_reject = true)) ∨
       (t.map_err = s.map_err ∧ t.tx_reject = s.tx_reject ∧ (s.cmd_err = true → t.cmd_err = true)))

/-- R56: NOP, MAP and SEND are the words with the rule's (match, mask) pairs; any other word is a CMD_ERR word. -/
def Obligations.CommandWordsMatchTheirMasks : Prop :=
  ∀ d : Word,
    (decodeCommand d = .ok .nop ↔ d &&& 0xFFFFFFFF = 0x00000000) ∧
    ((∃ x y, decodeCommand d = .ok (.map x y)) ↔ d &&& 0xFF0000FF = 0x00000001) ∧
    (∀ x y, decodeCommand d = .ok (.map x y) → x = (d.extractLsb' 8 8).toNat ∧ y = (d.extractLsb' 16 8).toNat) ∧
    (decodeCommand d = .ok .send ↔ d &&& 0xFFFFFFFF = 0x00000002) ∧
    ((∃ e, decodeCommand d = .error e) ↔
      d ≠ 0x00000000 ∧ d &&& 0xFF0000FF ≠ 0x00000001 ∧ d ≠ 0x00000002)

/-- R87 and R88: for every x and y a command word carries, MAP sets MAP_ERR and nothing else for a cell outside the board; inside,
it sets INDEX to the cell's index by R88's formula, and nothing else, busy or not; its word carries x and y in bits 15:8 and
23:16; with the rule's example. -/
def Obligations.MapSetsIndexOrMapErr : Prop :=
  ∀ (s : State) (x y : Nat),
    (x ≤ 255 → y ≤ 255 → decodeCommand (BitVec.ofNat 32 (y * 2 ^ 16 + x * 2 ^ 8 + 1)) = .ok (.map x y)) ∧
    (x ≤ 255 → y ≤ 255 → 10 ≤ x ∨ 20 ≤ y → exec (.map x y) s = .next { s with map_err := true }) ∧
    (x < 10 → y < 20 → ∃ t, exec (.map x y) s = .next t ∧ t = { s with index := t.index } ∧
      t.index.toNat = x * 20 +
        (if x % 2 = 0 then (if s.ctrl_flip then 20 - 1 - y else y)
         else 20 - 1 - (if s.ctrl_flip then 20 - 1 - y else y))) ∧
    (s.ctrl_flip = false → exec (.wrCmd 0x00130101) s = .next { s with index := 20 })

/-- R27 and R87: INDEX changes only by a reset or by a MAP of a cell of the board, which leaves the cell's index there. -/
def Obligations.OnlyMapOrResetChangesIndex : Prop :=
  ∀ (s t : State), step s = .next t → t.index ≠ s.index →
    s.nextInput = .reset ∨
      ∃ (d : Word) (x y : Nat), s.nextInput = .access 0x158 d ∧ decodeCommand d = .ok (.map x y) ∧ x < 10 ∧ y < 20 ∧
        t.index.toNat = mapIndex 20 x y s.ctrl_flip

/-- R89: the flip in closed form, for every board; the flip keeps a column's block of indices and mirrors the rows. -/
def Obligations.MapClosedForm : Prop :=
  ∀ w h x y : Nat, x < w → y < h →
    (x % 2 = 0 → mapIndex h x y false = x * h + y ∧ mapIndex h x y true = x * h + (h - 1 - y)) ∧
    (x % 2 = 1 → mapIndex h x y false = x * h + (h - 1 - y) ∧ mapIndex h x y true = x * h + y) ∧
    (∀ f, mapIndex h x y f / h = x) ∧
    mapIndex h x y true = mapIndex h x (h - 1 - y) false

/-- R90: an index lies in its column's block and on the strip, INDEX's 16 bits never drop a bit of it, and neither subtraction of
the formula goes below zero. -/
def Obligations.MapRangeFitsIndex : Prop :=
  ∀ (w h x y : Nat) (f : Bool), Config.boardOk w h = true → x < w → y < h →
    x * h ≤ mapIndex h x y f ∧ mapIndex h x y f ≤ x * h + h - 1 ∧ mapIndex h x y f ≤ w * h - 1 ∧ w * h - 1 ≤ 65024 ∧
    y ≤ h - 1 ∧ flipRow h y f ≤ h - 1 ∧ (BitVec.ofNat 16 (mapIndex h x y f)).toNat = mapIndex h x y f

/-- R91: for every board and either flip the map is a bijection of the cells onto the LED indices. -/
def Obligations.MapIsBijection : Prop :=
  ∀ (w h : Nat) (f : Bool),
    (∀ x y, x < w → y < h → mapIndex h x y f < w * h) ∧
    (∀ x y x' y', x < w → y < h → x' < w → y' < h → mapIndex h x y f = mapIndex h x' y' f → x = x' ∧ y = y') ∧
    (∀ i, i < w * h → ∃ x y, x < w ∧ y < h ∧ mapIndex h x y f = i)

/-- R92: unmap is the inverse of map, both ways, and the cell it gives is on the board. -/
def Obligations.UnmapInvertsMap : Prop :=
  ∀ (w h : Nat) (f : Bool),
    (∀ x y, x < w → y < h → unmapIndex h (mapIndex h x y f) f = (x, y)) ∧
    (∀ i, i < w * h → (unmapIndex h i f).1 < w ∧ (unmapIndex h i f).2 < h ∧
      mapIndex h (unmapIndex h i f).1 (unmapIndex h i f).2 f = i)

/-- R95: SEND is refused with TX_REJECT alone while SEQ is not empty; else SEQ takes the nonzero segments of the colour's
bits, green, red, blue, then white for RGBW, most significant bit first, and of the reset pulse, and nothing else changes; with
all durations 0 nothing at all changes; with the rule's example (49 segments, 1088 ticks). -/
def Obligations.SendLoadsTheTransmission : Prop :=
  ∀ s : State, decodeCommand 0x00000002 = .ok .send ∧
    (s.seq ≠ [] → exec .send s = .next { s with tx_reject := true }) ∧
    (s.seq = [] → ∃ segs, exec .send s = .next { s with seq := segs } ∧
      segs = (((([15, 14, 13, 12, 11, 10, 9, 8] ++ [7, 6, 5, 4, 3, 2, 1, 0] ++ [23, 22, 21, 20, 19, 18, 17, 16] ++
          (if s.ctrl_rgbw then [31, 30, 29, 28, 27, 26, 25, 24] else [])).map s.color.getLsbD).flatMap
          (fun b : Bool => if b then [(Level.high, s.t1h.toNat), (Level.low, s.t1l.toNat)]
            else [(Level.high, s.t0h.toNat), (Level.low, s.t0l.toNat)])) ++
        [(Level.low, s.treset.toNat)]).filter (fun p => p.2 ≠ 0) ∧
      ({ s with seq := segs }.busy = true ↔ segs ≠ [])) ∧
    (s.seq = [] → s.t0h = 0 → s.t0l = 0 → s.t1h = 0 → s.t1l = 0 → s.treset = 0 → exec .send s = .next s) ∧
    (s.seq = [] → s.snapshot = ⟨false, 4, 8, 8, 4, 800, 0x008000FF⟩ → ∃ t, exec .send s = .next t ∧ t.seq.length = 49 ∧
      (t.seq.map Prod.snd).sum = 1088)

/-- R96 and R97: 8C + 1 pulses, the last always the reset pulse, and the pulse at position 8j + (7 - i) encodes bit i of channel j, the
channels being green, red, blue and white. -/
def Obligations.PulseCountAndPositions : Prop :=
  ∀ cfg : SendCfg,
    cfg.pulses.length = 8 * Config.channels cfg.rgbw + 1 ∧
    cfg.pulses.getLast? = some (.reset cfg.trst.toNat) ∧
    ∀ j i, j < Config.channels cfg.rgbw → i < 8 →
      cfg.pulses[8 * j + (7 - i)]? = some
        (if cfg.color.getLsbD ((if j = 0 then 8 else if j = 1 then 0 else if j = 2 then 16 else 24) + i)
          then .bit cfg.t1h.toNat cfg.t1l.toNat else .bit cfg.t0h.toNat cfg.t0l.toNat)

/-- R98: SEQ keeps no zero duration; a pulse with a zero half leaves only the other half, and one with both zero leaves nothing;
the pulse list keeps its length. -/
def Obligations.ZeroDurationsAreDropped : Prop :=
  (∀ cfg : SendCfg, cfg.transmission = cfg.pulses.flatMap (fun p => p.segments.filter (fun g => g.2 ≠ 0))) ∧
  (∀ (cfg : SendCfg) (t0h t0l t1h t1l trst : BitVec 16),
    (SendCfg.pulses { cfg with t0h := t0h, t0l := t0l, t1h := t1h, t1l := t1l, trst := trst }).length =
      8 * Config.channels cfg.rgbw + 1) ∧
  (∀ h l : Nat, h ≠ 0 → l ≠ 0 →
    nonzero (Pulse.bit 0 l).segments = [(.low, l)] ∧ nonzero (Pulse.bit h 0).segments = [(.high, h)] ∧
    nonzero (Pulse.bit h l).segments = [(.high, h), (.low, l)] ∧
    nonzero (Pulse.reset l).segments = [(.low, l)]) ∧
  nonzero (Pulse.bit 0 0).segments = [] ∧ nonzero (Pulse.reset 0).segments = []

/-- R102: the duration of a transmission, by the number of 1 bits among the bits sent; its real time is that many T_UNIT. -/
def Obligations.TransmissionDuration : Prop :=
  ∀ (cfg : SendCfg) (n1 : Nat), n1 = cfg.bits.count true →
    totalTicks cfg.transmission =
      n1 * (cfg.t1h.toNat + cfg.t1l.toNat) + (8 * Config.channels cfg.rgbw - n1) * (cfg.t0h.toNat + cfg.t0l.toNat) +
        cfg.trst.toNat ∧
    realTime (totalTicks cfg.transmission) = totalTicks cfg.transmission * Config.tUnit

/-! ## The sequencer (43_encoder.md) -/

/-- R100: one tick drives Low when idle, else the head's level, and counts the head's ticks down; nothing else changes. -/
def Obligations.TickDrivesTheHead : Prop :=
  ∀ s : State,
    (s.seq = [] → tick s = { s with dout := .low, obs := .line .low :: s.obs }) ∧
    (∀ lv rest, s.seq = (lv, 1) :: rest → tick s = { s with seq := rest, dout := lv, obs := .line lv :: s.obs }) ∧
    (∀ lv d rest, s.seq = (lv, d + 2) :: rest →
      tick s = { s with seq := (lv, d + 1) :: rest, dout := lv, obs := .line lv :: s.obs })

/-- R101: the waveform of an accepted SEND. Tick k drives the level of the segment whose span holds k, BUSY reads 1 after k
ticks exactly for k below the total, and every later tick drives Low. -/
def Obligations.WaveformOfAnAcceptedSend : Prop :=
  ∀ s t : State, s.seq = [] → exec .send s = .next t →
    (∀ (j k : Nat) (hj : j < t.seq.length),
      ((t.seq.take j).map Prod.snd).sum ≤ k → k < ((t.seq.take (j + 1)).map Prod.snd).sum →
      levelAt t k = (t.seq[j]).1) ∧
    (∀ k, (ticks k t).busy = true ↔ k < (t.seq.map Prod.snd).sum) ∧
    (∀ k, (t.seq.map Prod.snd).sum ≤ k → levelAt t k = .low)

/-- R104: two SENDs with equal cfg, whatever else differs, load equal SEQ and drive equal waveforms, tick for tick. -/
def Obligations.SendIsDeterministic : Prop :=
  ∀ s s' t t' : State, s.seq = [] → s'.seq = [] → s.snapshot = s'.snapshot →
    exec .send s = .next t → exec .send s' = .next t' →
    t.seq = t'.seq ∧ ∀ k, levelAt t k = levelAt t' k ∧ (ticks k t).busy = (ticks k t').busy

/-- R105: the last bit's Low and the reset Low are one Low run on DOUT, of T?L + TRESET ticks, at the end of a transmission. -/
def Obligations.FinalLowRunIsMerged : Prop :=
  ∀ (s t : State) (b : Bool), s.seq = [] → exec .send s = .next t → s.snapshot.bits.getLast? = some b →
    ∀ k, (t.seq.map Prod.snd).sum - ((if b then s.t1l.toNat else s.t0l.toNat) + s.treset.toNat) ≤ k →
      levelAt t k = .low

/-- R34, R86, R99 and R103: no access of any kind changes DOUT, and while a transmission is in progress none changes SEQ; only a
tick or a reset does, so the next transmission never starts before this one ends. -/
def Obligations.NoAccessTouchesATransmission : Prop :=
  ∀ (s t : State) (desc : Desc) (d : Word), s.nextInput = .access desc d →
    step s = .next t → t.dout = s.dout ∧ (s.seq ≠ [] → t.seq = s.seq)

/-- R128: only an accepted SEND makes SEQ non-empty: a tick never does, and neither does any other access; and a SEND of an idle
block is accepted. -/
def Obligations.OnlySendStartsATransmission : Prop :=
  ∀ s : State, s.seq = [] →
    (∀ t, step s = .next t → t.seq ≠ [] →
      s.nextInput = .access 0x158 0x00000002 ∧ t.seq = s.snapshot.transmission) ∧
    (s.nextInput = .access 0x158 0x00000002 →
      ∃ t, step s = .next t ∧ t.seq = s.snapshot.transmission ∧ t.tx_reject = s.tx_reject)

/-- R48, and what it leaves free. With nothing but ticks to come, a transmission ends after exactly its remaining ticks: the
machine answers a next state at every step until then, with SEQ empty at the last of them and at no earlier one. Over runs
without end: under every schedule that is weakly fair to the sequencer SEQ is empty again and again, whatever else the schedule
does; under a schedule that never ticks nor resets, which R48's freedom without the fairness allows, it never changes. The
machine's own run, going on after a BusError, is the run under the schedule of the inputs it takes. How schedules and the next
inputs are held is the model's choice (log entries 1, 2 and 13). -/
def Obligations.TransmissionEndsWhenTicksCome : Prop :=
  (∀ s : State, SeqOk s.seq → s.QuietFor (s.seq.map Prod.snd).sum → ∀ m, m ≤ (s.seq.map Prod.snd).sum →
    ∃ t, Host.Core.run core m s = .next t ∧ (t.seq = [] ↔ m = (s.seq.map Prod.snd).sum)) ∧
  (∀ (sched : Schedule) (s : State), SeqOk s.seq → WeaklyFair sched s →
    ∀ n, ∃ m, n ≤ m ∧ (runUnder sched m s).seq = []) ∧
  (∀ (sched : Schedule) (s : State), (∀ k, ∃ desc data, sched k = .access desc data) → s.seq ≠ [] →
    ∀ n, (runUnder sched n s).seq = s.seq) ∧
  (∀ (s : State) (n : Nat), stepsOn n s =
    { runUnder s.inputAt n s with inputs := s.inputs.drop n, turn := s.turn + (n - s.inputs.length) })

/-! ## Status bits (10_state.md, 60_exceptions.md) -/

/-- R30: an error bit once set stays 1 through every step, until the host writes 1 to it or the block is reset. -/
def Obligations.ErrorBitsAreSticky : Prop :=
  ∀ s t : State, step s = .next t →
    s.nextInput ≠ .reset →
    (s.map_err = true → t.map_err = false → ∃ d, s.nextInput = .access 0x144 d ∧ d.getLsbD 1 = true) ∧
    (s.tx_reject = true → t.tx_reject = false → ∃ d, s.nextInput = .access 0x144 d ∧ d.getLsbD 2 = true) ∧
    (s.cmd_err = true → t.cmd_err = false → ∃ d, s.nextInput = .access 0x144 d ∧ d.getLsbD 3 = true)

/-- R31: only a command, the sequencer's tick, a STATUS write (and reset) change a flag: any other access leaves all four. -/
def Obligations.OnlyCommandsTicksAndStatusChangeFlags : Prop :=
  ∀ (s t : State) (desc : Desc) (d : Word), s.nextInput = .access desc d →
    desc ≠ 0x158 → desc ≠ 0x144 → step s = .next t →
    t.busy = s.busy ∧ t.map_err = s.map_err ∧ t.tx_reject = s.tx_reject ∧ t.cmd_err = s.cmd_err

/-- R108: which access sets which error bit, and when. -/
def Obligations.ErrorBitsAreSetByTheirCause : Prop :=
  ∀ s t : State, step s = .next t →
    (s.map_err = false → t.map_err = true → ∃ d x y, s.nextInput = .access 0x158 d ∧
      decodeCommand d = .ok (.map x y) ∧ (10 ≤ x ∨ 20 ≤ y)) ∧
    (s.tx_reject = false → t.tx_reject = true → s.nextInput = .access 0x158 0x00000002 ∧ s.seq ≠ []) ∧
    (s.cmd_err = false → t.cmd_err = true → ∃ d e, s.nextInput = .access 0x158 d ∧ decodeCommand d = .error e)

/-- R113: a SEND and the tick that ends the previous transmission, both due: refused with TX_REJECT if the SEND comes first, and
accepted, with no error bit set, if the tick does; the model has both orders (log entry 1). -/
def Obligations.SendRacingTheLastTick : Prop :=
  ∀ (s : State) (lv : Level), s.seq = [(lv, 1)] →
    (s.nextInput = .access 0x158 0x00000002 → s.taken.nextInput = .tick →
      ∃ t u, step s = .next t ∧ t.tx_reject = true ∧ t.seq = s.seq ∧ step t = .next u ∧ u.seq = [] ∧
        u.tx_reject = true) ∧
    (s.nextInput = .tick → s.taken.nextInput = .access 0x158 0x00000002 →
      ∃ t u, step s = .next t ∧ t.seq = [] ∧ step t = .next u ∧ u.seq = s.snapshot.transmission ∧
        u.map_err = s.map_err ∧ u.tx_reject = s.tx_reject ∧ u.cmd_err = s.cmd_err)

/-- R127: a host that does not send while BUSY = 1 never sees TX_REJECT set. -/
def Obligations.WaitingHostIsNeverRejected : Prop :=
  ∀ s t : State, s.hostWaits = true → s.tx_reject = false → step s = .next t → t.tx_reject = false

/-! ## Accesses, errors and the bus (20_memory.md, 30_encoding.md, 60_exceptions.md) -/

/-- R54: a descriptor is checked for size, then alignment, then offset, each failing with a BusError of its own; one that passes
names the instruction whose encoding it is. -/
def Obligations.DescriptorChecksInOrder : Prop :=
  ∀ (desc : Desc) (data : Word),
    (desc.toNat / 128 ≠ 2 → decodeBus desc data = .error ⟨.size, desc.extractLsb' 0 6⟩) ∧
    (desc.toNat / 128 = 2 → desc.toNat % 4 ≠ 0 → decodeBus desc data = .error ⟨.alignment, desc.extractLsb' 0 6⟩) ∧
    (desc.toNat / 128 = 2 → desc.toNat % 4 = 0 → 0x20 < desc.toNat % 64 →
      decodeBus desc data = .error ⟨.offset, desc.extractLsb' 0 6⟩) ∧
    (desc.toNat / 128 = 2 → desc.toNat % 4 = 0 → desc.toNat % 64 ≤ 0x20 →
      ∃ i, decodeBus desc data = .ok i ∧ encode i = .bus desc (if desc.getLsbD 6 then data else 0))

/-- R111: an access that fails a check is a fault of the run, and the block it leaves has no register, flag, SEQ or DOUT changed and
no read value returned; only the error response has been seen. -/
def Obligations.BusErrorChangesNothing : Prop :=
  ∀ (s : State) (desc : Desc) (data : Word), s.nextInput = .access desc data →
    legalAccess desc = false →
    ∃ cause, step s = .fault (.busError ⟨cause, desc.extractLsb' 0 6⟩) ∧
      stepOn s = { s.taken with obs := .busError ⟨cause, desc.extractLsb' 0 6⟩ :: s.obs }

/-- R43, R46 and the two decoders: an access whose words decode runs that instruction, whole, on the state with the access taken;
a command word runs as the write to CMD that carries it; a tick runs as R100 says and a reset as R122 says. The next input is the
first settled one, and after those one of the free inputs that R48 leaves open, one for each turn; a reset leaves the inputs and
the observations alone. Settled inputs, free inputs and the trace are the model's choice (log entries 1, 3 and 10). -/
def Obligations.StepRunsTheNextInput : Prop :=
  ∀ s : State,
    (∀ e i, s.nextInput = inputOf e → decode e = .ok i → step s = exec i s.taken) ∧
    (s.nextInput = .tick → step s = .next (tick s.taken)) ∧
    (s.nextInput = .reset → step s = .next s.taken.applyReset ∧
      s.taken.applyReset.inputs = s.taken.inputs ∧ s.taken.applyReset.turn = s.taken.turn ∧
      s.taken.applyReset.obs = s.obs) ∧
    (∀ e rest, s.inputs = e :: rest → s.nextInput = e ∧ s.taken = { s with inputs := rest }) ∧
    (s.inputs = [] → s.nextInput = Config.environment s.turn ∧ s.taken = { s with turn := s.turn + 1 })

/-- A table word placed for fetch is the next thing the machine runs, from any state: `step` answers as `exec` of the
instruction the decoder reads from it (log entry 9). -/
def Obligations.PlacedTableWordRuns : Prop :=
  ∀ (s : State) (nbits w : Nat) (i : Instr), decodeTableWord nbits w = some i → step (s.withFetchWord nbits w) = exec i s

/-- The 18 descriptor values of R62's reference list and three command words of R56 decode to the instructions they stand for. -/
def Obligations.SampleWordsDecode : Prop :=
  decode (.bus 0x100 0) = .ok .rdCtrl ∧ decode (.bus 0x140 0x00FF8042) = .ok (.wrCtrl 0x00FF8042) ∧
  decode (.bus 0x104 0) = .ok .rdStatus ∧ decode (.bus 0x144 0x00FF8042) = .ok (.wrStatus 0x00FF8042) ∧
  decode (.bus 0x108 0) = .ok .rdT0 ∧ decode (.bus 0x148 0x00FF8042) = .ok (.wrT0 0x00FF8042) ∧
  decode (.bus 0x10C 0) = .ok .rdT1 ∧ decode (.bus 0x14C 0x00FF8042) = .ok (.wrT1 0x00FF8042) ∧
  decode (.bus 0x110 0) = .ok .rdTrst ∧ decode (.bus 0x150 0x00FF8042) = .ok (.wrTrst 0x00FF8042) ∧
  decode (.bus 0x114 0) = .ok .rdColor ∧ decode (.bus 0x154 0x00FF8042) = .ok (.wrColor 0x00FF8042) ∧
  decode (.bus 0x118 0) = .ok .rdCmd ∧ decode (.bus 0x158 0x00FF8042) = .ok (.wrCmd 0x00FF8042) ∧
  decode (.bus 0x11C 0) = .ok .rdIndex ∧ decode (.bus 0x15C 0x00FF8042) = .ok (.wrIndex 0x00FF8042) ∧
  decode (.bus 0x120 0) = .ok .rdInfo ∧ decode (.bus 0x160 0x00FF8042) = .ok (.wrInfo 0x00FF8042) ∧
  decode (.cmd 0x00000000) = .ok .nop ∧ decode (.cmd 0x00130101) = .ok (.map 1 19) ∧
  decode (.cmd 0x00000002) = .ok .send

/-- Every well-formed instruction decodes from its encoding, with every operand at every value the encoding admits. -/
def Obligations.DecodeInvertsEncode : Prop :=
  ∀ i : Instr, i.wellFormed = true → decode (encode i) = .ok i

/-- What decodes is well formed, and encodes to the very words it was read from; a read's data word, which the block does not look
at, encodes as 0 (log entry 8). -/
def Obligations.EncodeInvertsDecode : Prop :=
  ∀ (e : Encoded) (i : Instr), decode e = .ok i → i.wellFormed = true ∧
    (∀ w, e = .cmd w → encode i = .cmd w) ∧
    (∀ desc data, e = .bus desc data → encode i = .bus desc (if desc.getLsbD 6 then data else 0))

/-- R38 and R63: the addresses BASE + off of the aperture reach the block, with that offset; no other address does; BASE is a
multiple of 64; and a 4-byte access carries the descriptor of R54. -/
def Obligations.ApertureRoutesItsAddresses : Prop :=
  Config.base % 64 = 0 ∧
  (∀ off : Offset, route (Config.base + off.toNat) = some off) ∧
  (∀ addr, addr < Config.base ∨ Config.base + 64 ≤ addr → route addr = none) ∧
  (∀ (off : Offset) (v : Word),
    memRead (Config.base + off.toNat) 4 = some (.access (BitVec.ofNat 9 (0x100 + off.toNat)) 0) ∧
    memWrite (Config.base + off.toNat) 4 v = some (.access (BitVec.ofNat 9 (0x140 + off.toNat)) v))

/-- R41 and R42: a host access to the aperture of any width but 4 bytes, or of 4 bytes at a misaligned offset, is a fault of the run,
and leaves the block unchanged. -/
def Obligations.NarrowOrMisalignedAccessFaults : Prop :=
  ∀ (s : State) (off : Offset) (bytes : Nat) (v : Word) (e : Input),
    memRead (Config.base + off.toNat) bytes = some e ∨ memWrite (Config.base + off.toNat) bytes v = some e →
    s.nextInput = e → bytes ≠ 4 ∨ off.toNat % 4 ≠ 0 →
    ∃ cause, cause = (if bytes = 4 then BusErrorCause.alignment else .size) ∧
      step s = .fault (.busError ⟨cause, off⟩) ∧
      stepOn s = { s.taken with obs := .busError ⟨cause, off⟩ :: s.obs }

/-- R40: lane k of a register is its bits 8k+7 down to 8k, the lowest address first, and four lanes make the word again. -/
def Obligations.ByteLanesAreLittleEndian : Prop :=
  (∀ (v : Word) (k i : Nat), k < 4 → i < 8 → (lane v k).getLsbD i = v.getLsbD (8 * k + i)) ∧
  (∀ v : Word, ofLanes (lane v 0) (lane v 1) (lane v 2) (lane v 3) = v) ∧
  (∀ b0 b1 b2 b3 : Byte, lane (ofLanes b0 b1 b2 b3) 0 = b0 ∧ lane (ofLanes b0 b1 b2 b3) 1 = b1 ∧
    lane (ofLanes b0 b1 b2 b3) 2 = b2 ∧ lane (ofLanes b0 b1 b2 b3) 3 = b3)

/-- R62: what each pseudo-instruction's expansion does, for every operand the assembler accepts; and that it refuses the rest.
WAITIDLE is one pass of its loop here, the branch being the host's (log entry 14). -/
def Obligations.PseudoInstructionsExpand : Prop :=
  ∀ (s : State),
    (Pseudo.expand .nop = some [.wrCmd 0x00000000]) ∧ (Pseudo.expand .send = some [.wrCmd 0x00000002]) ∧
    (Pseudo.expand .waitIdle = some [.rdStatus] ∧ waitAgain s.statusWord = s.busy) ∧
    (∃ i, Pseudo.expand .clrErr = some [i] ∧
      exec i s = .next { s with map_err := false, tx_reject := false, cmd_err := false }) ∧
    (∀ x y, x ≤ 255 → y ≤ 255 → ∃ i, Pseudo.expand (.map x y) = some [i] ∧ exec i s = exec (.map x y) s) ∧
    (∀ h l, h ≤ 65535 → l ≤ 65535 →
      (∃ i t, Pseudo.expand (.setT0 h l) = some [i] ∧ exec i s = .next t ∧ t.t0h.toNat = h ∧ t.t0l.toNat = l) ∧
      (∃ i t, Pseudo.expand (.setT1 h l) = some [i] ∧ exec i s = .next t ∧ t.t1h.toNat = h ∧ t.t1l.toNat = l) ∧
      (∃ i t, Pseudo.expand (.setTrst h) = some [i] ∧ exec i s = .next t ∧ t.treset.toNat = h)) ∧
    (∀ r g b w, r ≤ 255 → g ≤ 255 → b ≤ 255 → w ≤ 255 →
      (∃ i t, Pseudo.expand (.setColorW r g b w) = some [i] ∧ exec i s = .next t ∧ (red t.color).toNat = r ∧
        (green t.color).toNat = g ∧ (blue t.color).toNat = b ∧ (white t.color).toNat = w ∧
        Pseudo.expand (.sendCW r g b w) = some [i, .wrCmd 0x00000002]) ∧
      (∃ i t, Pseudo.expand (.setColor r g b) = some [i] ∧ exec i s = .next t ∧ (red t.color).toNat = r ∧
        (green t.color).toNat = g ∧ (blue t.color).toNat = b ∧ (white t.color).toNat = 0 ∧
        Pseudo.expand (.sendC r g b) = some [i, .wrCmd 0x00000002])) ∧
    (∀ x y, 255 < x ∨ 255 < y → Pseudo.expand (.map x y) = none) ∧
    (∀ h l, 65535 < h ∨ 65535 < l → Pseudo.expand (.setT0 h l) = none ∧ Pseudo.expand (.setT1 h l) = none) ∧
    (∀ r, 65535 < r → Pseudo.expand (.setTrst r) = none) ∧
    (∀ r g b w, 255 < r ∨ 255 < g ∨ 255 < b →
      Pseudo.expand (.setColor r g b) = none ∧ Pseudo.expand (.sendC r g b) = none ∧
      Pseudo.expand (.setColorW r g b w) = none ∧ Pseudo.expand (.sendCW r g b w) = none) ∧
    (∀ r g b w, 255 < w → Pseudo.expand (.setColorW r g b w) = none ∧ Pseudo.expand (.sendCW r g b w) = none)

/-! ## Reset and the whole machine (70_reset_and_hazards.md) -/

/-- R36: the reset input gives every piece of the block's state the value the rule states, in any state. -/
def Obligations.ResetSetsEveryValue : Prop :=
  ∀ s : State, s.nextInput = .reset →
    ∃ t, step s = .next t ∧ t.ctrl_flip = false ∧ t.ctrl_rgbw = false ∧ t.t0h = 0 ∧ t.t0l = 0 ∧ t.t1h = 0 ∧ t.t1l = 0 ∧
      t.treset = 0x0320 ∧ t.color = 0 ∧ t.index = 0 ∧ t.map_err = false ∧ t.tx_reject = false ∧ t.cmd_err = false ∧
      t.seq = [] ∧ t.dout = .low ∧
      exec .rdInfo t = .next { t with obs := .read 0x0000140A :: t.obs }

/-- R123: a reset during a transmission empties SEQ at once, and every tick from the next on drives Low. -/
def Obligations.ResetCutsATransmissionShort : Prop :=
  ∀ s : State, s.nextInput = .reset → s.seq ≠ [] →
    ∃ t, step s = .next t ∧ t.busy = false ∧ ∀ k, levelAt t k = .low ∧ (ticks k t).busy = false

/-- R125's legal case: a SEND right after reset, the colour set or not, drives 800 ticks of Low. -/
def Obligations.SendAfterResetDrives800Low : Prop :=
  ∀ c : Word, ∃ t u, exec (.wrColor c) State.reset = .next t ∧ exec .send t = .next u ∧
    (∀ k, levelAt u k = .low) ∧ ∀ k, (ticks k u).busy = true ↔ k < 800

/-- Every step keeps the invariant of R33 and R90: SEQ holds at most 65 segments of 1 to 65535 ticks, and INDEX names an LED. -/
def Obligations.StepKeepsInvariant : Prop :=
  ∀ s t : State, s.Inv → step s = .next t → t.Inv

/-- The invariant holds after reset. -/
def Obligations.InvariantAtReset : Prop := State.reset.Inv

/-- Every instruction of the block completes, from every state: R107's "never traps", "never stops". That a MAP whose operands no
command word carries (above 255) completes too is the model's choice (log entry 11). -/
def Obligations.EveryInstructionCompletes : Prop :=
  ∀ (i : Instr) (s : State), ∃ t, exec i s = .next t ∧ t.inputs = s.inputs ∧ t.turn = s.turn

/-- A run does not stop for as long as its host makes legal accesses only, however long that is and however ticks and resets
fall. -/
def Obligations.LegalHostNeverFaults : Prop :=
  ∀ (s : State) (n : Nat), s.LegalFor n → ∃ t, Host.Core.run core n s = .next t

/-- R13: what has been observed never feeds back. A step adds to the trace and does the same whatever the trace held.
The trace is the model's own field (log entry 3). -/
def Obligations.ObservationNeverFeedsBack : Prop :=
  ∀ s t : State, step s = .next t →
    ∃ new, t.obs = new ++ s.obs ∧ new.length ≤ 1 ∧ ∀ trace, step { s with obs := trace } = .next { t with obs := new ++ trace }
end

