-- ==== Sys2Proof/Laws/Decode.lean ====
section
/-! SUPPORT. The fields of a descriptor and of a command word as numbers, and what the decoders can answer. -/

namespace Sys2Proof

/-! ### Command words -/

theorem cmdOp_toNat (w : Word) : (cmdOp w).toNat = w.toNat % 2 ^ 4 := by
  simp [cmdOp, BitVec.extractLsb'_toNat]

theorem cmdRsv0_toNat (w : Word) : (cmdRsv0 w).toNat = w.toNat / 2 ^ 4 % 2 ^ 4 := by
  simp [cmdRsv0, BitVec.extractLsb'_toNat, Nat.shiftRight_eq_div_pow]

theorem cmdX_toNat (w : Word) : (cmdX w).toNat = w.toNat / 2 ^ 8 % 2 ^ 8 := by
  simp [cmdX, BitVec.extractLsb'_toNat, Nat.shiftRight_eq_div_pow]

theorem cmdY_toNat (w : Word) : (cmdY w).toNat = w.toNat / 2 ^ 16 % 2 ^ 8 := by
  simp [cmdY, BitVec.extractLsb'_toNat, Nat.shiftRight_eq_div_pow]

theorem cmdRsv1_toNat (w : Word) : (cmdRsv1 w).toNat = w.toNat / 2 ^ 24 % 2 ^ 8 := by
  simp [cmdRsv1, BitVec.extractLsb'_toNat, Nat.shiftRight_eq_div_pow]

theorem cmdXY_toNat (w : Word) : (w.extractLsb' 8 16).toNat = w.toNat / 2 ^ 8 % 2 ^ 16 := by
  simp [BitVec.extractLsb'_toNat, Nat.shiftRight_eq_div_pow]

/-- Appending bit vectors, as numbers. -/
theorem append_toNat {m n : Nat} (a : BitVec m) (b : BitVec n) : (a ++ b).toNat = a.toNat * 2 ^ n + b.toNat := by
  rw [BitVec.toNat_append, Nat.shiftLeft_eq, Nat.mul_comm, ← Nat.two_pow_add_eq_or_of_lt b.isLt]

theorem commandWord_toNat (op : BitVec 4) (x y : Nat) :
    (commandWord op x y).toNat = y % 2 ^ 8 * 2 ^ 16 + x % 2 ^ 8 * 2 ^ 8 + op.toNat := by
  simp only [commandWord, append_toNat, BitVec.toNat_ofNat]
  omega

/-! ### Descriptors -/

theorem descSize_toNat (desc : Desc) : (descSize desc).toNat = desc.toNat / 2 ^ 7 := by
  have := desc.isLt
  simp only [descSize, BitVec.extractLsb'_toNat, Nat.shiftRight_eq_div_pow]
  omega

theorem descOffset_toNat (desc : Desc) : (descOffset desc).toNat = desc.toNat % 2 ^ 6 := by
  simp [descOffset, BitVec.extractLsb'_toNat]

theorem desc32_toNat (write : Bool) (off : Offset) :
    (desc32 write off).toNat = 2 * 2 ^ 7 + write.toNat * 2 ^ 6 + off.toNat := by
  simp only [desc32, append_toNat, BitVec.toNat_ofNat, BitVec.toNat_ofBool]
  omega

/-- What passes the descriptor checks is an access to a defined offset. -/
theorem decodeBus_ok {desc : Desc} {data : Word} {i : Instr} (h : decodeBus desc data = .ok i) :
    descSize desc = 0b10 ∧ (descOffset desc).extractLsb' 0 2 = 0 ∧
      accessAt (descOffset desc) (descWrite desc) data = some i := by
  unfold decodeBus at h
  split at h
  · cases h
  · split at h
    · cases h
    · split at h
      · rename_i h1 h2 _ j hj
        cases h
        exact ⟨not_not.mp h1, not_not.mp h2, hj⟩
      · cases h

/-- The command an error-free command word names has the word's opcode. -/
theorem decodeCommand_ok_cases {w : Word} {c : Command} (h : decodeCommand w = .ok c) :
    (c = .nop ∧ w.toNat = 0) ∨
    (c = .map (cmdX w).toNat (cmdY w).toNat ∧ cmdOp w = 1 ∧ cmdRsv0 w = 0 ∧ cmdRsv1 w = 0) ∨
    (c = .send ∧ w.toNat = 2) := by
  have hw := w.isLt
  have hop := cmdOp_toNat w
  have h0 := cmdRsv0_toNat w
  have h1 := cmdRsv1_toNat w
  have hxy := cmdXY_toNat w
  unfold decodeCommand at h
  split at h
  · cases h
  rename_i c1
  split at h
  · cases h
  rename_i c2
  split at h
  · cases h
  rename_i c3
  have r1 : cmdRsv1 w = 0 := by by_contra hc; exact c2 (.inl hc)
  have r0 : cmdRsv0 w = 0 := by by_contra hc; exact c2 (.inr hc)
  rw [r0] at h0
  rw [r1] at h1
  simp only [BitVec.ofNat_eq_ofNat, BitVec.toNat_ofNat] at h0 h1
  split at h
  · rename_i c4
    have hz : w.extractLsb' 8 16 = 0 := by
      by_contra hc
      exact c3 ⟨by rw [c4]; decide, hc⟩
    rw [c4] at hop
    rw [hz] at hxy
    simp only [BitVec.ofNat_eq_ofNat, BitVec.toNat_ofNat] at hop hxy
    cases h
    exact .inl ⟨rfl, by omega⟩
  · rename_i c4
    split at h
    · rename_i c5
      cases h
      exact .inr (.inl ⟨rfl, c5, r0, r1⟩)
    · rename_i c5
      have hz : w.extractLsb' 8 16 = 0 := by
        by_contra hc
        exact c3 ⟨c5, hc⟩
      rw [hz] at hxy
      simp only [BitVec.ofNat_eq_ofNat, BitVec.toNat_ofNat] at hxy
      have n0 : (cmdOp w).toNat ≠ 0 := by
        intro hc
        exact c4 (BitVec.eq_of_toNat_eq hc)
      have n1 : (cmdOp w).toNat ≠ 1 := by
        intro hc
        exact c5 (BitVec.eq_of_toNat_eq hc)
      cases h
      exact .inr (.inr ⟨rfl, by omega⟩)

end Sys2Proof
end

