-- ==== Sys2Proof/Laws/State.lean ====
section
/-! SUPPORT. One lemma for each field under each named update of the state, so that no proof unfolds a record update. -/

namespace Sys2Proof.Machine.State

section observe
variable (o : Obs) (s : State)

@[simp] theorem observe_ctrl_flip : (s.observe o).ctrl_flip = s.ctrl_flip := rfl
@[simp] theorem observe_ctrl_rgbw : (s.observe o).ctrl_rgbw = s.ctrl_rgbw := rfl
@[simp] theorem observe_t0h : (s.observe o).t0h = s.t0h := rfl
@[simp] theorem observe_t0l : (s.observe o).t0l = s.t0l := rfl
@[simp] theorem observe_t1h : (s.observe o).t1h = s.t1h := rfl
@[simp] theorem observe_t1l : (s.observe o).t1l = s.t1l := rfl
@[simp] theorem observe_treset : (s.observe o).treset = s.treset := rfl
@[simp] theorem observe_color : (s.observe o).color = s.color := rfl
@[simp] theorem observe_index : (s.observe o).index = s.index := rfl
@[simp] theorem observe_map_err : (s.observe o).map_err = s.map_err := rfl
@[simp] theorem observe_tx_reject : (s.observe o).tx_reject = s.tx_reject := rfl
@[simp] theorem observe_cmd_err : (s.observe o).cmd_err = s.cmd_err := rfl
@[simp] theorem observe_seq : (s.observe o).seq = s.seq := rfl
@[simp] theorem observe_dout : (s.observe o).dout = s.dout := rfl
@[simp] theorem observe_inputs : (s.observe o).inputs = s.inputs := rfl
@[simp] theorem observe_turn : (s.observe o).turn = s.turn := rfl
@[simp] theorem observe_obs : (s.observe o).obs = o :: s.obs := rfl

end observe

section withInputs
variable (rest : List Input) (s : State)

@[simp] theorem withInputs_ctrl_flip : (s.withInputs rest).ctrl_flip = s.ctrl_flip := rfl
@[simp] theorem withInputs_ctrl_rgbw : (s.withInputs rest).ctrl_rgbw = s.ctrl_rgbw := rfl
@[simp] theorem withInputs_t0h : (s.withInputs rest).t0h = s.t0h := rfl
@[simp] theorem withInputs_t0l : (s.withInputs rest).t0l = s.t0l := rfl
@[simp] theorem withInputs_t1h : (s.withInputs rest).t1h = s.t1h := rfl
@[simp] theorem withInputs_t1l : (s.withInputs rest).t1l = s.t1l := rfl
@[simp] theorem withInputs_treset : (s.withInputs rest).treset = s.treset := rfl
@[simp] theorem withInputs_color : (s.withInputs rest).color = s.color := rfl
@[simp] theorem withInputs_index : (s.withInputs rest).index = s.index := rfl
@[simp] theorem withInputs_map_err : (s.withInputs rest).map_err = s.map_err := rfl
@[simp] theorem withInputs_tx_reject : (s.withInputs rest).tx_reject = s.tx_reject := rfl
@[simp] theorem withInputs_cmd_err : (s.withInputs rest).cmd_err = s.cmd_err := rfl
@[simp] theorem withInputs_seq : (s.withInputs rest).seq = s.seq := rfl
@[simp] theorem withInputs_dout : (s.withInputs rest).dout = s.dout := rfl
@[simp] theorem withInputs_inputs : (s.withInputs rest).inputs = rest := rfl
@[simp] theorem withInputs_turn : (s.withInputs rest).turn = s.turn := rfl
@[simp] theorem withInputs_obs : (s.withInputs rest).obs = s.obs := rfl

end withInputs

section taken
variable (s : State)

@[simp] theorem taken_ctrl_flip : s.taken.ctrl_flip = s.ctrl_flip := rfl
@[simp] theorem taken_ctrl_rgbw : s.taken.ctrl_rgbw = s.ctrl_rgbw := rfl
@[simp] theorem taken_t0h : s.taken.t0h = s.t0h := rfl
@[simp] theorem taken_t0l : s.taken.t0l = s.t0l := rfl
@[simp] theorem taken_t1h : s.taken.t1h = s.t1h := rfl
@[simp] theorem taken_t1l : s.taken.t1l = s.t1l := rfl
@[simp] theorem taken_treset : s.taken.treset = s.treset := rfl
@[simp] theorem taken_color : s.taken.color = s.color := rfl
@[simp] theorem taken_index : s.taken.index = s.index := rfl
@[simp] theorem taken_map_err : s.taken.map_err = s.map_err := rfl
@[simp] theorem taken_tx_reject : s.taken.tx_reject = s.tx_reject := rfl
@[simp] theorem taken_cmd_err : s.taken.cmd_err = s.cmd_err := rfl
@[simp] theorem taken_seq : s.taken.seq = s.seq := rfl
@[simp] theorem taken_dout : s.taken.dout = s.dout := rfl
@[simp] theorem taken_inputs : s.taken.inputs = s.inputs.tail := rfl
@[simp] theorem taken_obs : s.taken.obs = s.obs := rfl

end taken

section answer
variable (v : Word) (s : State)

@[simp] theorem answer_ctrl_flip : (s.answer v).ctrl_flip = s.ctrl_flip := rfl
@[simp] theorem answer_ctrl_rgbw : (s.answer v).ctrl_rgbw = s.ctrl_rgbw := rfl
@[simp] theorem answer_t0h : (s.answer v).t0h = s.t0h := rfl
@[simp] theorem answer_t0l : (s.answer v).t0l = s.t0l := rfl
@[simp] theorem answer_t1h : (s.answer v).t1h = s.t1h := rfl
@[simp] theorem answer_t1l : (s.answer v).t1l = s.t1l := rfl
@[simp] theorem answer_treset : (s.answer v).treset = s.treset := rfl
@[simp] theorem answer_color : (s.answer v).color = s.color := rfl
@[simp] theorem answer_index : (s.answer v).index = s.index := rfl
@[simp] theorem answer_map_err : (s.answer v).map_err = s.map_err := rfl
@[simp] theorem answer_tx_reject : (s.answer v).tx_reject = s.tx_reject := rfl
@[simp] theorem answer_cmd_err : (s.answer v).cmd_err = s.cmd_err := rfl
@[simp] theorem answer_seq : (s.answer v).seq = s.seq := rfl
@[simp] theorem answer_dout : (s.answer v).dout = s.dout := rfl
@[simp] theorem answer_inputs : (s.answer v).inputs = s.inputs := rfl
@[simp] theorem answer_turn : (s.answer v).turn = s.turn := rfl
@[simp] theorem answer_obs : (s.answer v).obs = .read v :: s.obs := rfl

end answer

section setCtrl
variable (flip rgbw : Bool) (s : State)

@[simp] theorem setCtrl_ctrl_flip : (s.setCtrl flip rgbw).ctrl_flip = flip := rfl
@[simp] theorem setCtrl_ctrl_rgbw : (s.setCtrl flip rgbw).ctrl_rgbw = rgbw := rfl
@[simp] theorem setCtrl_t0h : (s.setCtrl flip rgbw).t0h = s.t0h := rfl
@[simp] theorem setCtrl_t0l : (s.setCtrl flip rgbw).t0l = s.t0l := rfl
@[simp] theorem setCtrl_t1h : (s.setCtrl flip rgbw).t1h = s.t1h := rfl
@[simp] theorem setCtrl_t1l : (s.setCtrl flip rgbw).t1l = s.t1l := rfl
@[simp] theorem setCtrl_treset : (s.setCtrl flip rgbw).treset = s.treset := rfl
@[simp] theorem setCtrl_color : (s.setCtrl flip rgbw).color = s.color := rfl
@[simp] theorem setCtrl_index : (s.setCtrl flip rgbw).index = s.index := rfl
@[simp] theorem setCtrl_map_err : (s.setCtrl flip rgbw).map_err = s.map_err := rfl
@[simp] theorem setCtrl_tx_reject : (s.setCtrl flip rgbw).tx_reject = s.tx_reject := rfl
@[simp] theorem setCtrl_cmd_err : (s.setCtrl flip rgbw).cmd_err = s.cmd_err := rfl
@[simp] theorem setCtrl_seq : (s.setCtrl flip rgbw).seq = s.seq := rfl
@[simp] theorem setCtrl_dout : (s.setCtrl flip rgbw).dout = s.dout := rfl
@[simp] theorem setCtrl_inputs : (s.setCtrl flip rgbw).inputs = s.inputs := rfl
@[simp] theorem setCtrl_turn : (s.setCtrl flip rgbw).turn = s.turn := rfl
@[simp] theorem setCtrl_obs : (s.setCtrl flip rgbw).obs = s.obs := rfl

end setCtrl

section setT0
variable (high low : BitVec 16) (s : State)

@[simp] theorem setT0_ctrl_flip : (s.setT0 high low).ctrl_flip = s.ctrl_flip := rfl
@[simp] theorem setT0_ctrl_rgbw : (s.setT0 high low).ctrl_rgbw = s.ctrl_rgbw := rfl
@[simp] theorem setT0_t0h : (s.setT0 high low).t0h = high := rfl
@[simp] theorem setT0_t0l : (s.setT0 high low).t0l = low := rfl
@[simp] theorem setT0_t1h : (s.setT0 high low).t1h = s.t1h := rfl
@[simp] theorem setT0_t1l : (s.setT0 high low).t1l = s.t1l := rfl
@[simp] theorem setT0_treset : (s.setT0 high low).treset = s.treset := rfl
@[simp] theorem setT0_color : (s.setT0 high low).color = s.color := rfl
@[simp] theorem setT0_index : (s.setT0 high low).index = s.index := rfl
@[simp] theorem setT0_map_err : (s.setT0 high low).map_err = s.map_err := rfl
@[simp] theorem setT0_tx_reject : (s.setT0 high low).tx_reject = s.tx_reject := rfl
@[simp] theorem setT0_cmd_err : (s.setT0 high low).cmd_err = s.cmd_err := rfl
@[simp] theorem setT0_seq : (s.setT0 high low).seq = s.seq := rfl
@[simp] theorem setT0_dout : (s.setT0 high low).dout = s.dout := rfl
@[simp] theorem setT0_inputs : (s.setT0 high low).inputs = s.inputs := rfl
@[simp] theorem setT0_turn : (s.setT0 high low).turn = s.turn := rfl
@[simp] theorem setT0_obs : (s.setT0 high low).obs = s.obs := rfl

end setT0

section setT1
variable (high low : BitVec 16) (s : State)

@[simp] theorem setT1_ctrl_flip : (s.setT1 high low).ctrl_flip = s.ctrl_flip := rfl
@[simp] theorem setT1_ctrl_rgbw : (s.setT1 high low).ctrl_rgbw = s.ctrl_rgbw := rfl
@[simp] theorem setT1_t0h : (s.setT1 high low).t0h = s.t0h := rfl
@[simp] theorem setT1_t0l : (s.setT1 high low).t0l = s.t0l := rfl
@[simp] theorem setT1_t1h : (s.setT1 high low).t1h = high := rfl
@[simp] theorem setT1_t1l : (s.setT1 high low).t1l = low := rfl
@[simp] theorem setT1_treset : (s.setT1 high low).treset = s.treset := rfl
@[simp] theorem setT1_color : (s.setT1 high low).color = s.color := rfl
@[simp] theorem setT1_index : (s.setT1 high low).index = s.index := rfl
@[simp] theorem setT1_map_err : (s.setT1 high low).map_err = s.map_err := rfl
@[simp] theorem setT1_tx_reject : (s.setT1 high low).tx_reject = s.tx_reject := rfl
@[simp] theorem setT1_cmd_err : (s.setT1 high low).cmd_err = s.cmd_err := rfl
@[simp] theorem setT1_seq : (s.setT1 high low).seq = s.seq := rfl
@[simp] theorem setT1_dout : (s.setT1 high low).dout = s.dout := rfl
@[simp] theorem setT1_inputs : (s.setT1 high low).inputs = s.inputs := rfl
@[simp] theorem setT1_turn : (s.setT1 high low).turn = s.turn := rfl
@[simp] theorem setT1_obs : (s.setT1 high low).obs = s.obs := rfl

end setT1

section setTrst
variable (ticks : BitVec 16) (s : State)

@[simp] theorem setTrst_ctrl_flip : (s.setTrst ticks).ctrl_flip = s.ctrl_flip := rfl
@[simp] theorem setTrst_ctrl_rgbw : (s.setTrst ticks).ctrl_rgbw = s.ctrl_rgbw := rfl
@[simp] theorem setTrst_t0h : (s.setTrst ticks).t0h = s.t0h := rfl
@[simp] theorem setTrst_t0l : (s.setTrst ticks).t0l = s.t0l := rfl
@[simp] theorem setTrst_t1h : (s.setTrst ticks).t1h = s.t1h := rfl
@[simp] theorem setTrst_t1l : (s.setTrst ticks).t1l = s.t1l := rfl
@[simp] theorem setTrst_treset : (s.setTrst ticks).treset = ticks := rfl
@[simp] theorem setTrst_color : (s.setTrst ticks).color = s.color := rfl
@[simp] theorem setTrst_index : (s.setTrst ticks).index = s.index := rfl
@[simp] theorem setTrst_map_err : (s.setTrst ticks).map_err = s.map_err := rfl
@[simp] theorem setTrst_tx_reject : (s.setTrst ticks).tx_reject = s.tx_reject := rfl
@[simp] theorem setTrst_cmd_err : (s.setTrst ticks).cmd_err = s.cmd_err := rfl
@[simp] theorem setTrst_seq : (s.setTrst ticks).seq = s.seq := rfl
@[simp] theorem setTrst_dout : (s.setTrst ticks).dout = s.dout := rfl
@[simp] theorem setTrst_inputs : (s.setTrst ticks).inputs = s.inputs := rfl
@[simp] theorem setTrst_turn : (s.setTrst ticks).turn = s.turn := rfl
@[simp] theorem setTrst_obs : (s.setTrst ticks).obs = s.obs := rfl

end setTrst

section setColor
variable (tuple : Word) (s : State)

@[simp] theorem setColor_ctrl_flip : (s.setColor tuple).ctrl_flip = s.ctrl_flip := rfl
@[simp] theorem setColor_ctrl_rgbw : (s.setColor tuple).ctrl_rgbw = s.ctrl_rgbw := rfl
@[simp] theorem setColor_t0h : (s.setColor tuple).t0h = s.t0h := rfl
@[simp] theorem setColor_t0l : (s.setColor tuple).t0l = s.t0l := rfl
@[simp] theorem setColor_t1h : (s.setColor tuple).t1h = s.t1h := rfl
@[simp] theorem setColor_t1l : (s.setColor tuple).t1l = s.t1l := rfl
@[simp] theorem setColor_treset : (s.setColor tuple).treset = s.treset := rfl
@[simp] theorem setColor_color : (s.setColor tuple).color = tuple := rfl
@[simp] theorem setColor_index : (s.setColor tuple).index = s.index := rfl
@[simp] theorem setColor_map_err : (s.setColor tuple).map_err = s.map_err := rfl
@[simp] theorem setColor_tx_reject : (s.setColor tuple).tx_reject = s.tx_reject := rfl
@[simp] theorem setColor_cmd_err : (s.setColor tuple).cmd_err = s.cmd_err := rfl
@[simp] theorem setColor_seq : (s.setColor tuple).seq = s.seq := rfl
@[simp] theorem setColor_dout : (s.setColor tuple).dout = s.dout := rfl
@[simp] theorem setColor_inputs : (s.setColor tuple).inputs = s.inputs := rfl
@[simp] theorem setColor_turn : (s.setColor tuple).turn = s.turn := rfl
@[simp] theorem setColor_obs : (s.setColor tuple).obs = s.obs := rfl

end setColor

section setIndex
variable (idx : BitVec 16) (s : State)

@[simp] theorem setIndex_ctrl_flip : (s.setIndex idx).ctrl_flip = s.ctrl_flip := rfl
@[simp] theorem setIndex_ctrl_rgbw : (s.setIndex idx).ctrl_rgbw = s.ctrl_rgbw := rfl
@[simp] theorem setIndex_t0h : (s.setIndex idx).t0h = s.t0h := rfl
@[simp] theorem setIndex_t0l : (s.setIndex idx).t0l = s.t0l := rfl
@[simp] theorem setIndex_t1h : (s.setIndex idx).t1h = s.t1h := rfl
@[simp] theorem setIndex_t1l : (s.setIndex idx).t1l = s.t1l := rfl
@[simp] theorem setIndex_treset : (s.setIndex idx).treset = s.treset := rfl
@[simp] theorem setIndex_color : (s.setIndex idx).color = s.color := rfl
@[simp] theorem setIndex_index : (s.setIndex idx).index = idx := rfl
@[simp] theorem setIndex_map_err : (s.setIndex idx).map_err = s.map_err := rfl
@[simp] theorem setIndex_tx_reject : (s.setIndex idx).tx_reject = s.tx_reject := rfl
@[simp] theorem setIndex_cmd_err : (s.setIndex idx).cmd_err = s.cmd_err := rfl
@[simp] theorem setIndex_seq : (s.setIndex idx).seq = s.seq := rfl
@[simp] theorem setIndex_dout : (s.setIndex idx).dout = s.dout := rfl
@[simp] theorem setIndex_inputs : (s.setIndex idx).inputs = s.inputs := rfl
@[simp] theorem setIndex_turn : (s.setIndex idx).turn = s.turn := rfl
@[simp] theorem setIndex_obs : (s.setIndex idx).obs = s.obs := rfl

end setIndex

section setSeq
variable (segs : List Segment) (s : State)

@[simp] theorem setSeq_ctrl_flip : (s.setSeq segs).ctrl_flip = s.ctrl_flip := rfl
@[simp] theorem setSeq_ctrl_rgbw : (s.setSeq segs).ctrl_rgbw = s.ctrl_rgbw := rfl
@[simp] theorem setSeq_t0h : (s.setSeq segs).t0h = s.t0h := rfl
@[simp] theorem setSeq_t0l : (s.setSeq segs).t0l = s.t0l := rfl
@[simp] theorem setSeq_t1h : (s.setSeq segs).t1h = s.t1h := rfl
@[simp] theorem setSeq_t1l : (s.setSeq segs).t1l = s.t1l := rfl
@[simp] theorem setSeq_treset : (s.setSeq segs).treset = s.treset := rfl
@[simp] theorem setSeq_color : (s.setSeq segs).color = s.color := rfl
@[simp] theorem setSeq_index : (s.setSeq segs).index = s.index := rfl
@[simp] theorem setSeq_map_err : (s.setSeq segs).map_err = s.map_err := rfl
@[simp] theorem setSeq_tx_reject : (s.setSeq segs).tx_reject = s.tx_reject := rfl
@[simp] theorem setSeq_cmd_err : (s.setSeq segs).cmd_err = s.cmd_err := rfl
@[simp] theorem setSeq_seq : (s.setSeq segs).seq = segs := rfl
@[simp] theorem setSeq_dout : (s.setSeq segs).dout = s.dout := rfl
@[simp] theorem setSeq_inputs : (s.setSeq segs).inputs = s.inputs := rfl
@[simp] theorem setSeq_turn : (s.setSeq segs).turn = s.turn := rfl
@[simp] theorem setSeq_obs : (s.setSeq segs).obs = s.obs := rfl

end setSeq

section drive
variable (level : Level) (segs : List Segment) (s : State)

@[simp] theorem drive_ctrl_flip : (s.drive level segs).ctrl_flip = s.ctrl_flip := rfl
@[simp] theorem drive_ctrl_rgbw : (s.drive level segs).ctrl_rgbw = s.ctrl_rgbw := rfl
@[simp] theorem drive_t0h : (s.drive level segs).t0h = s.t0h := rfl
@[simp] theorem drive_t0l : (s.drive level segs).t0l = s.t0l := rfl
@[simp] theorem drive_t1h : (s.drive level segs).t1h = s.t1h := rfl
@[simp] theorem drive_t1l : (s.drive level segs).t1l = s.t1l := rfl
@[simp] theorem drive_treset : (s.drive level segs).treset = s.treset := rfl
@[simp] theorem drive_color : (s.drive level segs).color = s.color := rfl
@[simp] theorem drive_index : (s.drive level segs).index = s.index := rfl
@[simp] theorem drive_map_err : (s.drive level segs).map_err = s.map_err := rfl
@[simp] theorem drive_tx_reject : (s.drive level segs).tx_reject = s.tx_reject := rfl
@[simp] theorem drive_cmd_err : (s.drive level segs).cmd_err = s.cmd_err := rfl
@[simp] theorem drive_seq : (s.drive level segs).seq = segs := rfl
@[simp] theorem drive_dout : (s.drive level segs).dout = level := rfl
@[simp] theorem drive_inputs : (s.drive level segs).inputs = s.inputs := rfl
@[simp] theorem drive_turn : (s.drive level segs).turn = s.turn := rfl
@[simp] theorem drive_obs : (s.drive level segs).obs = .line level :: s.obs := rfl

end drive

section applyReset
variable (s : State)

@[simp] theorem applyReset_ctrl_flip : s.applyReset.ctrl_flip = State.reset.ctrl_flip := rfl
@[simp] theorem applyReset_ctrl_rgbw : s.applyReset.ctrl_rgbw = State.reset.ctrl_rgbw := rfl
@[simp] theorem applyReset_t0h : s.applyReset.t0h = State.reset.t0h := rfl
@[simp] theorem applyReset_t0l : s.applyReset.t0l = State.reset.t0l := rfl
@[simp] theorem applyReset_t1h : s.applyReset.t1h = State.reset.t1h := rfl
@[simp] theorem applyReset_t1l : s.applyReset.t1l = State.reset.t1l := rfl
@[simp] theorem applyReset_treset : s.applyReset.treset = State.reset.treset := rfl
@[simp] theorem applyReset_color : s.applyReset.color = State.reset.color := rfl
@[simp] theorem applyReset_index : s.applyReset.index = State.reset.index := rfl
@[simp] theorem applyReset_map_err : s.applyReset.map_err = State.reset.map_err := rfl
@[simp] theorem applyReset_tx_reject : s.applyReset.tx_reject = State.reset.tx_reject := rfl
@[simp] theorem applyReset_cmd_err : s.applyReset.cmd_err = State.reset.cmd_err := rfl
@[simp] theorem applyReset_seq : s.applyReset.seq = State.reset.seq := rfl
@[simp] theorem applyReset_dout : s.applyReset.dout = State.reset.dout := rfl
@[simp] theorem applyReset_inputs : s.applyReset.inputs = s.inputs := rfl
@[simp] theorem applyReset_turn : s.applyReset.turn = s.turn := rfl
@[simp] theorem applyReset_obs : s.applyReset.obs = s.obs := rfl

end applyReset

section errorResponse
variable (e : BusError) (s : State)

@[simp] theorem errorResponse_ctrl_flip : (s.errorResponse e).ctrl_flip = s.ctrl_flip := rfl
@[simp] theorem errorResponse_ctrl_rgbw : (s.errorResponse e).ctrl_rgbw = s.ctrl_rgbw := rfl
@[simp] theorem errorResponse_t0h : (s.errorResponse e).t0h = s.t0h := rfl
@[simp] theorem errorResponse_t0l : (s.errorResponse e).t0l = s.t0l := rfl
@[simp] theorem errorResponse_t1h : (s.errorResponse e).t1h = s.t1h := rfl
@[simp] theorem errorResponse_t1l : (s.errorResponse e).t1l = s.t1l := rfl
@[simp] theorem errorResponse_treset : (s.errorResponse e).treset = s.treset := rfl
@[simp] theorem errorResponse_color : (s.errorResponse e).color = s.color := rfl
@[simp] theorem errorResponse_index : (s.errorResponse e).index = s.index := rfl
@[simp] theorem errorResponse_map_err : (s.errorResponse e).map_err = s.map_err := rfl
@[simp] theorem errorResponse_tx_reject : (s.errorResponse e).tx_reject = s.tx_reject := rfl
@[simp] theorem errorResponse_cmd_err : (s.errorResponse e).cmd_err = s.cmd_err := rfl
@[simp] theorem errorResponse_seq : (s.errorResponse e).seq = s.seq := rfl
@[simp] theorem errorResponse_dout : (s.errorResponse e).dout = s.dout := rfl
@[simp] theorem errorResponse_inputs : (s.errorResponse e).inputs = s.inputs := rfl
@[simp] theorem errorResponse_turn : (s.errorResponse e).turn = s.turn := rfl
@[simp] theorem errorResponse_obs : (s.errorResponse e).obs = .busError e :: s.obs := rfl

end errorResponse

section raiseMapErr
variable (s : State)

@[simp] theorem raiseMapErr_ctrl_flip : s.raiseMapErr.ctrl_flip = s.ctrl_flip := rfl
@[simp] theorem raiseMapErr_ctrl_rgbw : s.raiseMapErr.ctrl_rgbw = s.ctrl_rgbw := rfl
@[simp] theorem raiseMapErr_t0h : s.raiseMapErr.t0h = s.t0h := rfl
@[simp] theorem raiseMapErr_t0l : s.raiseMapErr.t0l = s.t0l := rfl
@[simp] theorem raiseMapErr_t1h : s.raiseMapErr.t1h = s.t1h := rfl
@[simp] theorem raiseMapErr_t1l : s.raiseMapErr.t1l = s.t1l := rfl
@[simp] theorem raiseMapErr_treset : s.raiseMapErr.treset = s.treset := rfl
@[simp] theorem raiseMapErr_color : s.raiseMapErr.color = s.color := rfl
@[simp] theorem raiseMapErr_index : s.raiseMapErr.index = s.index := rfl
@[simp] theorem raiseMapErr_map_err : s.raiseMapErr.map_err = true := rfl
@[simp] theorem raiseMapErr_tx_reject : s.raiseMapErr.tx_reject = s.tx_reject := rfl
@[simp] theorem raiseMapErr_cmd_err : s.raiseMapErr.cmd_err = s.cmd_err := rfl
@[simp] theorem raiseMapErr_seq : s.raiseMapErr.seq = s.seq := rfl
@[simp] theorem raiseMapErr_dout : s.raiseMapErr.dout = s.dout := rfl
@[simp] theorem raiseMapErr_inputs : s.raiseMapErr.inputs = s.inputs := rfl
@[simp] theorem raiseMapErr_turn : s.raiseMapErr.turn = s.turn := rfl
@[simp] theorem raiseMapErr_obs : s.raiseMapErr.obs = s.obs := rfl

end raiseMapErr

section raiseTxReject
variable (s : State)

@[simp] theorem raiseTxReject_ctrl_flip : s.raiseTxReject.ctrl_flip = s.ctrl_flip := rfl
@[simp] theorem raiseTxReject_ctrl_rgbw : s.raiseTxReject.ctrl_rgbw = s.ctrl_rgbw := rfl
@[simp] theorem raiseTxReject_t0h : s.raiseTxReject.t0h = s.t0h := rfl
@[simp] theorem raiseTxReject_t0l : s.raiseTxReject.t0l = s.t0l := rfl
@[simp] theorem raiseTxReject_t1h : s.raiseTxReject.t1h = s.t1h := rfl
@[simp] theorem raiseTxReject_t1l : s.raiseTxReject.t1l = s.t1l := rfl
@[simp] theorem raiseTxReject_treset : s.raiseTxReject.treset = s.treset := rfl
@[simp] theorem raiseTxReject_color : s.raiseTxReject.color = s.color := rfl
@[simp] theorem raiseTxReject_index : s.raiseTxReject.index = s.index := rfl
@[simp] theorem raiseTxReject_map_err : s.raiseTxReject.map_err = s.map_err := rfl
@[simp] theorem raiseTxReject_tx_reject : s.raiseTxReject.tx_reject = true := rfl
@[simp] theorem raiseTxReject_cmd_err : s.raiseTxReject.cmd_err = s.cmd_err := rfl
@[simp] theorem raiseTxReject_seq : s.raiseTxReject.seq = s.seq := rfl
@[simp] theorem raiseTxReject_dout : s.raiseTxReject.dout = s.dout := rfl
@[simp] theorem raiseTxReject_inputs : s.raiseTxReject.inputs = s.inputs := rfl
@[simp] theorem raiseTxReject_turn : s.raiseTxReject.turn = s.turn := rfl
@[simp] theorem raiseTxReject_obs : s.raiseTxReject.obs = s.obs := rfl

end raiseTxReject

section raiseCmdErr
variable (s : State)

@[simp] theorem raiseCmdErr_ctrl_flip : s.raiseCmdErr.ctrl_flip = s.ctrl_flip := rfl
@[simp] theorem raiseCmdErr_ctrl_rgbw : s.raiseCmdErr.ctrl_rgbw = s.ctrl_rgbw := rfl
@[simp] theorem raiseCmdErr_t0h : s.raiseCmdErr.t0h = s.t0h := rfl
@[simp] theorem raiseCmdErr_t0l : s.raiseCmdErr.t0l = s.t0l := rfl
@[simp] theorem raiseCmdErr_t1h : s.raiseCmdErr.t1h = s.t1h := rfl
@[simp] theorem raiseCmdErr_t1l : s.raiseCmdErr.t1l = s.t1l := rfl
@[simp] theorem raiseCmdErr_treset : s.raiseCmdErr.treset = s.treset := rfl
@[simp] theorem raiseCmdErr_color : s.raiseCmdErr.color = s.color := rfl
@[simp] theorem raiseCmdErr_index : s.raiseCmdErr.index = s.index := rfl
@[simp] theorem raiseCmdErr_map_err : s.raiseCmdErr.map_err = s.map_err := rfl
@[simp] theorem raiseCmdErr_tx_reject : s.raiseCmdErr.tx_reject = s.tx_reject := rfl
@[simp] theorem raiseCmdErr_cmd_err : s.raiseCmdErr.cmd_err = true := rfl
@[simp] theorem raiseCmdErr_seq : s.raiseCmdErr.seq = s.seq := rfl
@[simp] theorem raiseCmdErr_dout : s.raiseCmdErr.dout = s.dout := rfl
@[simp] theorem raiseCmdErr_inputs : s.raiseCmdErr.inputs = s.inputs := rfl
@[simp] theorem raiseCmdErr_turn : s.raiseCmdErr.turn = s.turn := rfl
@[simp] theorem raiseCmdErr_obs : s.raiseCmdErr.obs = s.obs := rfl

end raiseCmdErr

section clearErrors
variable (d : Word) (s : State)

@[simp] theorem clearErrors_ctrl_flip : (s.clearErrors d).ctrl_flip = s.ctrl_flip := rfl
@[simp] theorem clearErrors_ctrl_rgbw : (s.clearErrors d).ctrl_rgbw = s.ctrl_rgbw := rfl
@[simp] theorem clearErrors_t0h : (s.clearErrors d).t0h = s.t0h := rfl
@[simp] theorem clearErrors_t0l : (s.clearErrors d).t0l = s.t0l := rfl
@[simp] theorem clearErrors_t1h : (s.clearErrors d).t1h = s.t1h := rfl
@[simp] theorem clearErrors_t1l : (s.clearErrors d).t1l = s.t1l := rfl
@[simp] theorem clearErrors_treset : (s.clearErrors d).treset = s.treset := rfl
@[simp] theorem clearErrors_color : (s.clearErrors d).color = s.color := rfl
@[simp] theorem clearErrors_index : (s.clearErrors d).index = s.index := rfl
@[simp] theorem clearErrors_map_err : (s.clearErrors d).map_err = (s.map_err && !d.getLsbD 1) := rfl
@[simp] theorem clearErrors_tx_reject : (s.clearErrors d).tx_reject = (s.tx_reject && !d.getLsbD 2) := rfl
@[simp] theorem clearErrors_cmd_err : (s.clearErrors d).cmd_err = (s.cmd_err && !d.getLsbD 3) := rfl
@[simp] theorem clearErrors_seq : (s.clearErrors d).seq = s.seq := rfl
@[simp] theorem clearErrors_dout : (s.clearErrors d).dout = s.dout := rfl
@[simp] theorem clearErrors_inputs : (s.clearErrors d).inputs = s.inputs := rfl
@[simp] theorem clearErrors_turn : (s.clearErrors d).turn = s.turn := rfl
@[simp] theorem clearErrors_obs : (s.clearErrors d).obs = s.obs := rfl

end clearErrors

end Sys2Proof.Machine.State
end

