-- ==== Sys2Proof/Laws/Encoder.lean ====
section
/-! SUPPORT. The words the registers read as, bit by bit, and the bits a SEND sends, by their places in COLOR. -/

namespace Sys2Proof.Machine

/-- CTRL's bits (R18). -/
theorem ctrlWord_getLsbD (s : State) (i : Nat) :
    s.ctrlWord.getLsbD i = if i = 0 then s.ctrl_flip else if i = 1 then s.ctrl_rgbw else false := by
  have small : ∀ (a b : Bool) (i : Fin 2), ((BitVec.ofBool b ++ BitVec.ofBool a).setWidth 32).getLsbD i.val =
      if i.val = 0 then a else b := by decide
  unfold State.ctrlWord
  rcases i with _ | _ | i
  · exact small _ _ 0
  · exact small _ _ 1
  · simp

/-- STATUS's bits (R19). -/
theorem statusWord_getLsbD (s : State) (i : Nat) :
    s.statusWord.getLsbD i =
      if i = 0 then s.busy else if i = 1 then s.map_err else if i = 2 then s.tx_reject else if i = 3 then s.cmd_err
      else false := by
  have small : ∀ (a b c d : Bool) (i : Fin 4),
      ((BitVec.ofBool d ++ BitVec.ofBool c ++ BitVec.ofBool b ++ BitVec.ofBool a).setWidth 32).getLsbD i.val =
      if i.val = 0 then a else if i.val = 1 then b else if i.val = 2 then c else d := by decide
  unfold State.statusWord
  rcases i with _ | _ | _ | _ | i
  · exact small _ _ _ _ 0
  · exact small _ _ _ _ 1
  · exact small _ _ _ _ 2
  · exact small _ _ _ _ 3
  · simp

/-- The bits sent, as places in COLOR: green, red, blue, then white for RGBW (R96). -/
theorem bits_eq_places (cfg : SendCfg) :
    cfg.bits = ([15, 14, 13, 12, 11, 10, 9, 8] ++ [7, 6, 5, 4, 3, 2, 1, 0] ++ [23, 22, 21, 20, 19, 18, 17, 16] ++
      (if cfg.rgbw then [31, 30, 29, 28, 27, 26, 25, 24] else [])).map cfg.color.getLsbD := by
  unfold SendCfg.bits SendCfg.chans
  cases cfg.rgbw <;> simp [msbFirst, Config.bitsPerChannel, List.range_succ, green, red, blue, white]

theorem bits_length (cfg : SendCfg) : cfg.bits.length = 8 * Config.channels cfg.rgbw := by
  rw [bits_eq_places]
  cases cfg.rgbw <;> rfl

/-- Zero durations add nothing to a total (R102). -/
theorem totalTicks_nonzero (segs : List Segment) : totalTicks (nonzero segs) = totalTicks segs := by
  unfold totalTicks nonzero
  induction segs with
  | nil => rfl
  | cons p rest ih => by_cases h : p.2 = 0 <;> simp_all

end Sys2Proof.Machine
end

