-- ==== Sys2Proof/Laws/Machine.lean ====
section
/-! SUPPORT. What each shared operation can do, said once: the step, the meanings, the sequencer's tick. -/

namespace Sys2Proof.Machine

/-! ### The step -/

theorem nextInput_nil {s : State} (h : s.inputs = []) : s.nextInput = Config.environment s.turn := by
  simp [State.nextInput, h]

theorem nextInput_cons {s : State} {e : Input} {rest : List Input} (h : s.inputs = e :: rest) : s.nextInput = e := by
  simp [State.nextInput, h]

theorem taken_cons {s : State} {e : Input} {rest : List Input} (h : s.inputs = e :: rest) : s.taken = s.withInputs rest := by
  simp [State.taken, State.withInputs, h]

theorem taken_nil {s : State} (h : s.inputs = []) : s.taken = { s with turn := s.turn + 1 } := by
  simp [State.taken, h]

@[simp] theorem inputAt_zero (s : State) : s.inputAt 0 = s.nextInput := by
  cases h : s.inputs <;> simp [State.inputAt, State.nextInput, h]

/-- Taking an input moves every later one up by one place. -/
theorem inputAt_succ (s : State) (k : Nat) : s.inputAt (k + 1) = s.taken.inputAt k := by
  cases h : s.inputs with
  | nil => simp [State.inputAt, State.taken, h, Nat.add_comm, Nat.add_left_comm]
  | cons e rest => simp [State.inputAt, State.taken, h]

theorem step_of {s : State} {e : Input} (h : s.nextInput = e) : step s = serve e s.taken := by
  rw [step, h]

theorem step_cons {s : State} {e : Input} {rest : List Input} (h : s.inputs = e :: rest) :
    step s = serve e (s.withInputs rest) := by
  rw [step_of (nextInput_cons h), taken_cons h]

@[simp] theorem serve_tick (s : State) : serve .tick s = .next (tick s) := rfl

@[simp] theorem serve_reset (s : State) : serve .reset s = .next s.applyReset := rfl

theorem serve_access_ok {desc : Desc} {data : Word} {i : Instr} (h : decodeBus desc data = .ok i) (s : State) :
    serve (.access desc data) s = exec i s := by
  simp [serve, h]

theorem serve_access_error {desc : Desc} {data : Word} {e : BusError} (h : decodeBus desc data = .error e) (s : State) :
    serve (.access desc data) s = .fault (.busError e) := by
  simp [serve, h, raiseBusError]

/-! ### The tick -/

theorem tick_idle {s : State} (h : s.seq = []) : tick s = s.drive .low [] := by
  simp [tick, h]

theorem tick_cons {s : State} {lv : Level} {d : Nat} {rest : List Segment} (h : s.seq = (lv, d) :: rest) :
    tick s = s.drive lv (if d = 1 then rest else (lv, d - 1) :: rest) := by
  simp [tick, h]

/-- Everything a tick can do: it drives one level and leaves one list of segments. -/
theorem tick_cases (s : State) :
    (s.seq = [] ∧ tick s = s.drive .low []) ∨
    ∃ lv d rest, s.seq = (lv, d) :: rest ∧ tick s = s.drive lv (if d = 1 then rest else (lv, d - 1) :: rest) := by
  cases h : s.seq with
  | nil => exact .inl ⟨rfl, tick_idle h⟩
  | cons p rest => exact .inr ⟨p.1, p.2, rest, rfl, tick_cons h⟩

/-- A tick writes SEQ, DOUT and the trace only. -/
theorem tick_frame (s : State) : ∃ lv segs, tick s = s.drive lv segs := by
  rcases tick_cases s with ⟨-, h⟩ | ⟨lv, d, rest, -, h⟩
  · exact ⟨_, _, h⟩
  · exact ⟨_, _, h⟩

@[simp] theorem ticks_zero (s : State) : ticks 0 s = s := rfl

@[simp] theorem ticks_succ (n : Nat) (s : State) : ticks (n + 1) s = ticks n (tick s) := rfl

theorem ticks_add (m n : Nat) (s : State) : ticks (m + n) s = ticks n (ticks m s) := by
  induction m generalizing s with
  | zero => simp
  | succ m ih => rw [Nat.succ_add, ticks_succ, ticks_succ, ih]

/-! ### The commands -/

theorem executeCommand_ok {d : Word} {c : Command} (h : decodeCommand d = .ok c) (s : State) :
    executeCommand d s = exec c.instr s := by
  cases c <;> simp [executeCommand, h, exec, Command.instr]

theorem executeCommand_error {d : Word} {e : CmdErrorCause} (h : decodeCommand d = .error e) (s : State) :
    executeCommand d s = .next s.raiseCmdErr := by
  simp [executeCommand, h]

/-- Everything MAP can do. -/
theorem execMap_cases (x y : Nat) (s : State) :
    ((Config.W ≤ x ∨ Config.H ≤ y) ∧ execMap x y s = .next s.raiseMapErr) ∨
    (x < Config.W ∧ y < Config.H ∧
      execMap x y s = .next (s.setIndex (BitVec.ofNat 16 (mapIndex Config.H x y s.ctrl_flip)))) := by
  by_cases h : Config.W ≤ x ∨ Config.H ≤ y
  · exact .inl ⟨h, by simp [execMap, h]⟩
  · refine .inr ⟨by omega, by omega, by simp [execMap, h]⟩

@[simp] theorem busy_iff (s : State) : s.busy = true ↔ s.seq ≠ [] := by
  simp [State.busy]

@[simp] theorem not_busy_iff (s : State) : s.busy = false ↔ s.seq = [] := by
  simp [State.busy]

/-- Everything SEND can do. -/
theorem execSend_cases (s : State) :
    (s.seq ≠ [] ∧ execSend s = .next s.raiseTxReject) ∨
    (s.seq = [] ∧ execSend s = .next (s.setSeq s.snapshot.transmission)) := by
  by_cases h : s.seq = []
  · exact .inr ⟨h, by simp [execSend, State.busy, h]⟩
  · exact .inl ⟨h, by simp [execSend, State.busy, h]⟩

/-! ### What one instruction can do -/

/-- What an instruction other than WR CMD does to the state it leaves: one named update, or nothing. -/
inductive Effect (s : State) : State → Prop where
  | nothing : Effect s s
  | answer (v : Word) : Effect s (s.answer v)
  | setCtrl (flip rgbw : Bool) : Effect s (s.setCtrl flip rgbw)
  | clearErrors (d : Word) : Effect s (s.clearErrors d)
  | setT0 (high low : BitVec 16) : Effect s (s.setT0 high low)
  | setT1 (high low : BitVec 16) : Effect s (s.setT1 high low)
  | setTrst (n : BitVec 16) : Effect s (s.setTrst n)
  | setColor (c : Word) : Effect s (s.setColor c)
  | setIndex (x y : Nat) (hx : x < Config.W) (hy : y < Config.H) :
      Effect s (s.setIndex (BitVec.ofNat 16 (mapIndex Config.H x y s.ctrl_flip)))
  | raiseMapErr : Effect s s.raiseMapErr
  | raiseTxReject (h : s.seq ≠ []) : Effect s s.raiseTxReject
  | raiseCmdErr : Effect s s.raiseCmdErr
  | setSeq (h : s.seq = []) : Effect s (s.setSeq s.snapshot.transmission)

theorem execMap_effect (x y : Nat) (s : State) : ∃ t, execMap x y s = .next t ∧ Effect s t := by
  rcases execMap_cases x y s with ⟨-, h⟩ | ⟨hx, hy, h⟩
  · exact ⟨_, h, .raiseMapErr⟩
  · exact ⟨_, h, .setIndex x y hx hy⟩

theorem execSend_effect (s : State) : ∃ t, execSend s = .next t ∧ Effect s t := by
  rcases execSend_cases s with ⟨hs, h⟩ | ⟨hs, h⟩
  · exact ⟨_, h, .raiseTxReject hs⟩
  · exact ⟨_, h, .setSeq hs⟩

theorem executeCommand_effect (d : Word) (s : State) : ∃ t, executeCommand d s = .next t ∧ Effect s t := by
  cases h : decodeCommand d with
  | error e => exact ⟨_, executeCommand_error h s, .raiseCmdErr⟩
  | ok c =>
    rw [executeCommand_ok h]
    cases c with
    | nop => exact ⟨s, rfl, .nothing⟩
    | map x y => exact execMap_effect x y s
    | send => exact execSend_effect s

/-- Every instruction answers with one of the effects above. -/
theorem exec_effect (i : Instr) (s : State) : ∃ t, exec i s = .next t ∧ Effect s t := by
  cases i with
  | rdCtrl => exact ⟨_, rfl, .answer _⟩
  | wrCtrl d => exact ⟨_, rfl, .setCtrl _ _⟩
  | rdStatus => exact ⟨_, rfl, .answer _⟩
  | wrStatus d => exact ⟨_, rfl, .clearErrors d⟩
  | rdT0 => exact ⟨_, rfl, .answer _⟩
  | wrT0 d => exact ⟨_, rfl, .setT0 _ _⟩
  | rdT1 => exact ⟨_, rfl, .answer _⟩
  | wrT1 d => exact ⟨_, rfl, .setT1 _ _⟩
  | rdTrst => exact ⟨_, rfl, .answer _⟩
  | wrTrst d => exact ⟨_, rfl, .setTrst _⟩
  | rdColor => exact ⟨_, rfl, .answer _⟩
  | wrColor d => exact ⟨_, rfl, .setColor d⟩
  | rdCmd => exact ⟨_, rfl, .answer _⟩
  | wrCmd d => exact executeCommand_effect d s
  | rdIndex => exact ⟨_, rfl, .answer _⟩
  | wrIndex d => exact ⟨s, rfl, .nothing⟩
  | rdInfo => exact ⟨_, rfl, .answer _⟩
  | wrInfo d => exact ⟨s, rfl, .nothing⟩
  | nop => exact ⟨s, rfl, .nothing⟩
  | map x y => exact execMap_effect x y s
  | send => exact execSend_effect s

/-- What a step that goes on has done: served a tick, a reset, or an access that decodes. -/
theorem step_next_cases {s t : State} (h : step s = .next t) :
    (s.nextInput = .tick ∧ t = tick s.taken) ∨
    (s.nextInput = .reset ∧ t = s.taken.applyReset) ∨
    ∃ desc data i, s.nextInput = .access desc data ∧ decodeBus desc data = .ok i ∧ exec i s.taken = .next t := by
  cases hi : s.nextInput with
  | tick =>
    rw [step_of hi] at h
    exact .inl ⟨rfl, (Host.Outcome.next.inj h).symm⟩
  | reset =>
    rw [step_of hi] at h
    exact .inr (.inl ⟨rfl, (Host.Outcome.next.inj h).symm⟩)
  | access desc data =>
    rw [step_of hi] at h
    cases hd : decodeBus desc data with
    | error e => rw [serve_access_error hd] at h; cases h
    | ok i =>
      rw [serve_access_ok hd] at h
      exact .inr (.inr ⟨desc, data, i, rfl, hd, h⟩)

end Sys2Proof.Machine
end

