-- ==== Sys2Proof/Laws/PerInstr.lean ====
section
/-! SUPPORT. Family Format: the words of an instruction are legal words of its format (R54, R55), one lemma for each
constructor. -/

namespace Sys2Proof.Laws.Format

/-- A BUS word is a 32-bit access at an aligned, defined offset; a CMD word has its reserved fields 0 and a defined opcode. -/
def Statement (i : Instr) : Prop :=
  match encode i with
  | .bus desc _ => desc.toNat / 2 ^ 7 = 2 ∧ desc.toNat % 4 = 0 ∧ desc.toNat % 2 ^ 6 ≤ 0x20
  | .cmd word => word.toNat / 2 ^ 4 % 2 ^ 4 = 0 ∧ word.toNat / 2 ^ 24 = 0 ∧ word.toNat % 2 ^ 4 ≤ 2

theorem rdCtrl : Statement .rdCtrl := by show _ ∧ _ ∧ _; decide
theorem wrCtrl (d : Word) : Statement (.wrCtrl d) := by show _ ∧ _ ∧ _; decide
theorem rdStatus : Statement .rdStatus := by show _ ∧ _ ∧ _; decide
theorem wrStatus (d : Word) : Statement (.wrStatus d) := by show _ ∧ _ ∧ _; decide
theorem rdT0 : Statement .rdT0 := by show _ ∧ _ ∧ _; decide
theorem wrT0 (d : Word) : Statement (.wrT0 d) := by show _ ∧ _ ∧ _; decide
theorem rdT1 : Statement .rdT1 := by show _ ∧ _ ∧ _; decide
theorem wrT1 (d : Word) : Statement (.wrT1 d) := by show _ ∧ _ ∧ _; decide
theorem rdTrst : Statement .rdTrst := by show _ ∧ _ ∧ _; decide
theorem wrTrst (d : Word) : Statement (.wrTrst d) := by show _ ∧ _ ∧ _; decide
theorem rdColor : Statement .rdColor := by show _ ∧ _ ∧ _; decide
theorem wrColor (d : Word) : Statement (.wrColor d) := by show _ ∧ _ ∧ _; decide
theorem rdCmd : Statement .rdCmd := by show _ ∧ _ ∧ _; decide
theorem wrCmd (d : Word) : Statement (.wrCmd d) := by show _ ∧ _ ∧ _; decide
theorem rdIndex : Statement .rdIndex := by show _ ∧ _ ∧ _; decide
theorem wrIndex (d : Word) : Statement (.wrIndex d) := by show _ ∧ _ ∧ _; decide
theorem rdInfo : Statement .rdInfo := by show _ ∧ _ ∧ _; decide
theorem wrInfo (d : Word) : Statement (.wrInfo d) := by show _ ∧ _ ∧ _; decide
theorem nop : Statement .nop := by show _ ∧ _ ∧ _; decide

theorem map (x y : Nat) : Statement (.map x y) := by
  have h := commandWord_toNat 1 x y
  have h1 : (1 : BitVec 4).toNat = 1 := rfl
  show (commandWord 1 x y).toNat / 2 ^ 4 % 2 ^ 4 = 0 ∧ (commandWord 1 x y).toNat / 2 ^ 24 = 0 ∧
    (commandWord 1 x y).toNat % 2 ^ 4 ≤ 2
  omega

theorem send : Statement .send := by show _ ∧ _ ∧ _; decide

end Sys2Proof.Laws.Format
end

