-- ==== Sys2Proof/Laws/Schedule.lean ====
section
/-! SUPPORT. What one input does to the block, whichever inputs are still to come. -/

namespace Sys2Proof.Machine

@[simp] theorem obey_tick (s : State) : obey .tick s = tick s := rfl

@[simp] theorem obey_reset (s : State) : obey .reset s = s.applyReset := rfl

theorem obey_access_ok {desc : Desc} {data : Word} {i : Instr} {s t : State} (h : decodeBus desc data = .ok i)
    (ht : exec i s = .next t) : obey (.access desc data) s = t := by
  simp [obey, serve_access_ok h, ht]

theorem obey_access_error {desc : Desc} {data : Word} {e : BusError} (h : decodeBus desc data = .error e) (s : State) :
    obey (.access desc data) s = s.errorResponse e := by
  simp [obey, serve_access_error h]

/-- A step that goes on after a BusError is the next input obeyed. -/
theorem stepOn_eq_obey (s : State) : stepOn s = obey s.nextInput s.taken := by
  cases hi : s.nextInput with
  | tick => simp [stepOn, step_of hi]
  | reset => simp [stepOn, step_of hi]
  | access desc data =>
    cases hd : decodeBus desc data with
    | error e => simp [stepOn, step_of hi, serve_access_error hd, obey_access_error hd]
    | ok i =>
      obtain ⟨t, ht, -⟩ := exec_effect i s.taken
      simp [stepOn, step_of hi, serve_access_ok hd, ht, obey_access_ok hd ht]

/-! ### The inputs still to come change nothing of what an input does -/

section withInputs
variable {s t : State} (xs : List Input) (k : Nat)

theorem execMap_with_inputs {x y : Nat} (h : execMap x y s = .next t) :
    execMap x y { s with inputs := xs, turn := k } = .next { t with inputs := xs, turn := k } := by
  unfold execMap at h ⊢
  split at h <;> cases h
  · rw [if_pos ‹_›]; rfl
  · rw [if_neg ‹_›]; rfl

theorem execSend_with_inputs (h : execSend s = .next t) :
    execSend { s with inputs := xs, turn := k } = .next { t with inputs := xs, turn := k } := by
  unfold execSend at h ⊢
  rw [show ({ s with inputs := xs, turn := k } : State).busy = s.busy from rfl]
  split at h <;> cases h
  · rw [if_pos ‹_›]; rfl
  · rw [if_neg ‹_›]; rfl

theorem executeCommand_with_inputs {d : Word} (h : executeCommand d s = .next t) :
    executeCommand d { s with inputs := xs, turn := k } = .next { t with inputs := xs, turn := k } := by
  cases hd : decodeCommand d with
  | error e => rw [executeCommand_error hd] at h ⊢; cases h; rfl
  | ok c =>
    rw [executeCommand_ok hd] at h ⊢
    cases c with
    | nop => cases h; rfl
    | map x y => exact execMap_with_inputs xs k h
    | send => exact execSend_with_inputs xs k h

theorem exec_with_inputs {i : Instr} (h : exec i s = .next t) :
    exec i { s with inputs := xs, turn := k } = .next { t with inputs := xs, turn := k } := by
  cases i with
  | wrCmd d => exact executeCommand_with_inputs xs k h
  | map x y => exact execMap_with_inputs xs k h
  | send => exact execSend_with_inputs xs k h
  | _ => cases h; rfl

theorem tick_with_inputs (s : State) :
    tick { s with inputs := xs, turn := k } = { tick s with inputs := xs, turn := k } := by
  unfold tick
  dsimp only
  split <;> rfl

/-- What an input does to the block does not depend on the inputs after it, and leaves them alone. -/
theorem obey_with_inputs (e : Input) (s : State) :
    obey e { s with inputs := xs, turn := k } = { obey e s with inputs := xs, turn := k } := by
  cases e with
  | tick => exact tick_with_inputs xs k s
  | reset => rfl
  | access desc data =>
    cases hd : decodeBus desc data with
    | error err => rw [obey_access_error hd, obey_access_error hd]; rfl
    | ok i =>
      obtain ⟨t, ht, -⟩ := exec_effect i s
      rw [obey_access_ok hd ht, obey_access_ok hd (exec_with_inputs xs k ht)]

end withInputs

end Sys2Proof.Machine
end

