-- ==== Sys2Proof/Tests/Slice0.lean ====
section
/-! SUPPORT. The model's own tests. Words are written out from the tables of spec/30_encoding.md; expected results are the vectors
of spec/95_test_vectors.md (V-…), or the example of the rule a comment names. The last part holds, for each statement with
hypotheses, a state and operands that meet them. -/

namespace Sys2Proof.Tests

open Sys2Proof Sys2Proof.Machine

/-! ### Helpers -/

/-- The next state of a result, if it has one. -/
def nextOf (r : Result) : Option State :=
  match r with
  | .next t => some t
  | .fault _ => none
  | .refused _ => none

/-- One field of the next state. -/
def after {α : Type} (f : State → α) (r : Result) : Option α := (nextOf r).map f

/-- The fault of a result, if it is one. -/
def faultOf (r : Result) : Option Fault :=
  match r with
  | .next _ => none
  | .fault e => some e
  | .refused _ => none

/-- What was last observed. -/
def State.seen (s : State) : Option Obs := s.obs.head?

/-- The start state of the mapper's vectors: INDEX = 0x1234 (95_test_vectors.md part 2). -/
def mapStart (flip : Bool) : State := { State.reset with index := 0x1234, ctrl_flip := flip }

/-- A block with one transmission in progress: V-E1's first two segments. -/
def busyState : State := { State.reset with seq := [(.high, 4), (.low, 8)] }

/-- The last tick of a transmission is due. -/
def lastTick (inputs : List Input) : State := { State.reset with seq := [(.low, 1)], inputs := inputs }

/-- All three error bits set, with the block idle or busy. -/
def errState (seq : List Segment) : State := { State.reset with map_err := true, tx_reject := true, cmd_err := true, seq := seq }

/-- The configuration of V-E1. -/
def cfgE1 : SendCfg := ⟨false, 4, 8, 8, 4, 800, 0x008000FF⟩

/-- The state of V-E1 at its SEND. -/
def sendStart : State :=
  { State.reset with t0h := 4, t0l := 8, t1h := 8, t1l := 4, treset := 800, color := 0x008000FF }

/-! ### Well-formedness: an ill-formed term for each check -/

theorem test_wellFormed_refuses_x : (Instr.map 256 0).wellFormed = false := by decide
theorem test_wellFormed_refuses_y : (Instr.map 0 256).wellFormed = false := by decide
theorem test_wellFormed_accepts : (Instr.map 255 255).wellFormed = true := by decide
theorem test_accepted_refuses_cell : (Pseudo.map 256 0).accepted = false ∧ (Pseudo.map 0 256).accepted = false := by decide
theorem test_accepted_refuses_channel :
    (Pseudo.setColor 256 0 0).accepted = false ∧ (Pseudo.sendC 0 256 0).accepted = false ∧
    (Pseudo.setColorW 0 0 256 0).accepted = false ∧ (Pseudo.sendCW 0 0 0 256).accepted = false := by decide
theorem test_accepted_refuses_duration :
    (Pseudo.setT0 65536 0).accepted = false ∧ (Pseudo.setT1 0 65536).accepted = false ∧
    (Pseudo.setTrst 65536).accepted = false := by decide

/-- R6's limits, for this board and for boards outside them. -/
theorem test_boardOk : Config.boardOk Config.W Config.H = true ∧ Config.boardOk 0 20 = false ∧
    Config.boardOk 10 256 = false ∧ Config.nLed = 200 := by decide

/-! ### Decoding: each constructor from a word written out from R54 (SZ WR OFF) or R55 (RSV1 Y X RSV0 OP) -/

theorem test_decode_rdCtrl : decode (.bus 0b10_0_000000 0) = .ok .rdCtrl := rfl
theorem test_decode_wrCtrl : decode (.bus 0b10_1_000000 0x2) = .ok (.wrCtrl 0x2) := rfl
theorem test_decode_rdStatus : decode (.bus 0b10_0_000100 0) = .ok .rdStatus := rfl
theorem test_decode_wrStatus : decode (.bus 0b10_1_000100 0x4) = .ok (.wrStatus 0x4) := rfl
theorem test_decode_rdT0 : decode (.bus 0b10_0_001000 0) = .ok .rdT0 := rfl
theorem test_decode_wrT0 : decode (.bus 0b10_1_001000 0x00080004) = .ok (.wrT0 0x00080004) := rfl
theorem test_decode_rdT1 : decode (.bus 0b10_0_001100 0) = .ok .rdT1 := rfl
theorem test_decode_wrT1 : decode (.bus 0b10_1_001100 0x00040008) = .ok (.wrT1 0x00040008) := rfl
theorem test_decode_rdTrst : decode (.bus 0b10_0_010000 0) = .ok .rdTrst := rfl
theorem test_decode_wrTrst : decode (.bus 0b10_1_010000 0x320) = .ok (.wrTrst 0x320) := rfl
theorem test_decode_rdColor : decode (.bus 0b10_0_010100 0) = .ok .rdColor := rfl
theorem test_decode_wrColor : decode (.bus 0b10_1_010100 0x008000FF) = .ok (.wrColor 0x008000FF) := rfl
theorem test_decode_rdCmd : decode (.bus 0b10_0_011000 0) = .ok .rdCmd := rfl
theorem test_decode_wrCmd : decode (.bus 0b10_1_011000 0x2) = .ok (.wrCmd 0x2) := rfl
theorem test_decode_rdIndex : decode (.bus 0b10_0_011100 0) = .ok .rdIndex := rfl
theorem test_decode_wrIndex : decode (.bus 0b10_1_011100 0x1234) = .ok (.wrIndex 0x1234) := rfl
theorem test_decode_rdInfo : decode (.bus 0b10_0_100000 0) = .ok .rdInfo := rfl
theorem test_decode_wrInfo : decode (.bus 0b10_1_100000 0) = .ok (.wrInfo 0) := rfl
theorem test_decode_nop : decode (.cmd 0b00000000_00000000_00000000_0000_0000) = .ok .nop := rfl
theorem test_decode_map : decode (.cmd 0b00000000_00010011_00000001_0000_0001) = .ok (.map 1 19) := rfl
theorem test_decode_send : decode (.cmd 0b00000000_00000000_00000000_0000_0010) = .ok .send := rfl

/-- V-A16 to V-A23: size is checked before alignment, alignment before the offset. -/
theorem test_decode_busErrors :
    decodeBus 0x000 0 = .error ⟨.size, 0x00⟩ ∧ decodeBus 0x0D8 1 = .error ⟨.size, 0x18⟩ ∧
    decodeBus 0x184 0 = .error ⟨.size, 0x04⟩ ∧ decodeBus 0x102 0 = .error ⟨.alignment, 0x02⟩ ∧
    decodeBus 0x159 2 = .error ⟨.alignment, 0x19⟩ ∧ decodeBus 0x124 0 = .error ⟨.offset, 0x24⟩ ∧
    decodeBus 0x17C 0 = .error ⟨.offset, 0x3C⟩ ∧ decodeBus 0x025 0 = .error ⟨.size, 0x25⟩ :=
  ⟨rfl, rfl, rfl, rfl, rfl, rfl, rfl, rfl⟩

/-- V-C2 to V-C8, V-M18 to V-M20: reserved command words. -/
theorem test_decode_cmdErrors :
    decodeCommand 0x000000F0 = .error .reservedBits ∧ decodeCommand 0x00000003 = .error .opcode ∧
    decodeCommand 0xFF00000F = .error .opcode ∧ decodeCommand 0x00010002 = .error .reservedBits ∧
    decodeCommand 0x00000012 = .error .reservedBits ∧ decodeCommand 0x00000100 = .error .reservedBits ∧
    decodeCommand 0x010A0501 = .error .reservedBits ∧ decodeCommand 0x000A0511 = .error .reservedBits ∧
    decodeCommand 0x01001401 = .error .reservedBits :=
  ⟨rfl, rfl, rfl, rfl, rfl, rfl, rfl, rfl, rfl⟩

/-! ### Register accesses -/

/-- V-A2: reserved bits read 0. -/
theorem test_wrCtrl_reserved :
    after (fun t => after State.seen (exec .rdCtrl t)) (exec (.wrCtrl 0xFFFFFFFF) State.reset) =
      some (some (some (.read 0x3))) := by decide

/-- R64: FLIP_Y is bit 0 and RGBW bit 1. -/
theorem test_rdCtrl_places : after State.seen (exec .rdCtrl { State.reset with ctrl_rgbw := true }) = some (some (.read 0x2)) := by
  decide

/-- P3: BUSY, MAP_ERR and CMD_ERR read as 0xB. -/
theorem test_rdStatus_places :
    after State.seen (exec .rdStatus { busyState with map_err := true, cmd_err := true }) = some (some (.read 0xB)) := by decide

/-- V-A4: only TX_REJECT is cleared. -/
theorem test_wrStatus_one : after State.statusWord (exec (.wrStatus 0x4) (errState [])) = some 0xA := by decide

/-- V-A5: BUSY is not writable. -/
theorem test_wrStatus_busy : after State.statusWord (exec (.wrStatus 0xFFFFFFFF) (errState [(.low, 1)])) = some 0x1 := by decide

/-- V-A8: T0H is the low half. -/
theorem test_wrT0_halves : after (fun t => (t.t0h, t.t0l)) (exec (.wrT0 0x00080004) State.reset) = some (4, 8) := by decide

theorem test_rdT0_halves : after State.seen (exec .rdT0 sendStart) = some (some (.read 0x00080004)) := by decide

/-- R71's example. -/
theorem test_wrT1_halves : after (fun t => (t.t1h, t.t1l)) (exec (.wrT1 0x00040008) State.reset) = some (8, 4) := by decide

theorem test_rdT1_halves : after State.seen (exec .rdT1 sendStart) = some (some (.read 0x00040008)) := by decide

/-- V-A9. -/
theorem test_rdTrst_reset : after State.seen (exec .rdTrst State.reset) = some (some (.read 0x320)) := by decide

/-- V-A10. -/
theorem test_wrTrst_high_ignored : after State.trstWord (exec (.wrTrst 0xFFFF0064) State.reset) = some 0x64 := by decide

/-- V-A11, and R25's places. -/
theorem test_wrColor_places :
    after (fun t => (t.colorWord, red t.color, green t.color, blue t.color, white t.color)) (exec (.wrColor 0xFF804020) State.reset) =
      some (0xFF804020, 0x20, 0x40, 0x80, 0xFF) := by decide

theorem test_rdColor : after State.seen (exec .rdColor sendStart) = some (some (.read 0x008000FF)) := by decide

/-- V-A12. -/
theorem test_rdCmd_zero : after State.seen (exec .rdCmd busyState) = some (some (.read 0)) := by decide

theorem test_rdIndex : after State.seen (exec .rdIndex (mapStart false)) = some (some (.read 0x1234)) := by decide

/-- V-A13. -/
theorem test_wrIndex_ignored : nextOf (exec (.wrIndex 0x1234) State.reset) = some State.reset := by decide

/-- V-A14, V-A15. -/
theorem test_rdInfo : after State.seen (exec .rdInfo State.reset) = some (some (.read 0x140A)) := by decide

theorem test_wrInfo_ignored : nextOf (exec (.wrInfo 0) State.reset) = some State.reset := by decide

/-- V-A16: a BusError is a fault, and the block goes on unchanged. -/
theorem test_busError :
    faultOf (step { busyState with inputs := [.access 0x000 0] }) = some (.busError ⟨.size, 0⟩) ∧
    stepOn { busyState with inputs := [.access 0x000 0] } = { busyState with obs := [.busError ⟨.size, 0⟩] } := by decide

/-! ### Commands -/

/-- V-C1 and V-C12. -/
theorem test_nop : nextOf (exec (.wrCmd 0) busyState) = some busyState := by decide

/-- V-C3 and V-C11: CMD_ERR, and not TX_REJECT. -/
theorem test_wrCmd_reserved :
    after State.statusWord (exec (.wrCmd 0x3) State.reset) = some 0x8 ∧
    after State.statusWord (exec (.wrCmd 0x12) busyState) = some 0x9 := by decide

/-- V-M4, V-M5, V-M8, V-M13, V-M14: index and status after MAP. -/
theorem test_map_indices :
    after (fun t => (t.index, t.statusWord)) (exec (.wrCmd 0x00130101) (mapStart false)) = some (20, 0) ∧
    after (fun t => (t.index, t.statusWord)) (exec (.wrCmd 0x00000901) (mapStart false)) = some (199, 0) ∧
    after (fun t => (t.index, t.statusWord)) (exec (.wrCmd 0x00040301) (mapStart false)) = some (75, 0) ∧
    after (fun t => (t.index, t.statusWord)) (exec (.wrCmd 0x00040301) (mapStart true)) = some (64, 0) ∧
    after (fun t => (t.index, t.statusWord)) (exec (.wrCmd 0x00050201) (mapStart true)) = some (54, 0) := by decide

/-- V-M15 to V-M17, V-M20: x = W, y = H, the largest cell, and CMD_ERR before MAP_ERR. -/
theorem test_map_errors :
    after (fun t => (t.index, t.statusWord)) (exec (.wrCmd 0x00000A01) (mapStart false)) = some (0x1234, 2) ∧
    after (fun t => (t.index, t.statusWord)) (exec (.wrCmd 0x00140001) (mapStart false)) = some (0x1234, 2) ∧
    after (fun t => (t.index, t.statusWord)) (exec (.wrCmd 0x00FFFF01) (mapStart true)) = some (0x1234, 2) ∧
    after (fun t => (t.index, t.statusWord)) (exec (.wrCmd 0x01001401) (mapStart false)) = some (0x1234, 8) := by decide

/-- Rows 0, 7 and 19 of the winding tables WT-0 and WT-1. -/
theorem test_winding_tables :
    (List.range 10).map (fun x => mapIndex 20 x 0 false) = [0, 39, 40, 79, 80, 119, 120, 159, 160, 199] ∧
    (List.range 10).map (fun x => mapIndex 20 x 7 false) = [7, 32, 47, 72, 87, 112, 127, 152, 167, 192] ∧
    (List.range 10).map (fun x => mapIndex 20 x 19 false) = [19, 20, 59, 60, 99, 100, 139, 140, 179, 180] ∧
    (List.range 10).map (fun x => mapIndex 20 x 7 true) = [12, 27, 52, 67, 92, 107, 132, 147, 172, 187] := by decide

/-- The inverse and the other boards of 95_test_vectors.md part 2. -/
theorem test_unmap_and_boards :
    unmapIndex 20 20 false = (1, 19) ∧ unmapIndex 20 199 false = (9, 0) ∧ unmapIndex 20 45 true = (2, 14) ∧
    unmapIndex 20 0 true = (0, 19) ∧ mapIndex 2 1 0 false = 3 ∧ mapIndex 2 1 1 false = 2 ∧ mapIndex 2 2 1 false = 5 ∧
    mapIndex 1 0 0 true = 0 := by decide

/-- V-E1: the pulse list, 49 segments, 1088 ticks. -/
theorem test_send_e1_pulses :
    cfgE1.pulses = List.replicate 8 (.bit 4 8) ++ List.replicate 9 (.bit 8 4) ++ List.replicate 7 (.bit 4 8) ++ [.reset 800] := by
  decide

theorem test_send_e1_totals : cfgE1.transmission.length = 49 ∧ totalTicks cfgE1.transmission = 1088 := by decide

/-- V-E2: the white channel is sent, 65 segments, 1184 ticks; V-E3: without RGBW the WH byte is not. -/
theorem test_send_white :
    SendCfg.transmission { cfgE1 with rgbw := true, color := 0x018000FF } =
      cfgE1.transmission.dropLast ++ (List.replicate 7 [(.high, 4), (.low, 8)]).flatten ++ [(.high, 8), (.low, 4), (.low, 800)] ∧
    SendCfg.transmission { cfgE1 with color := 0xFF8000FF } = cfgE1.transmission := by decide

/-- V-E4 and V-E5: zero High time; zero Low time and no reset. -/
theorem test_send_zero_durations :
    SendCfg.transmission ⟨false, 0, 8, 8, 4, 800, 0⟩ = List.replicate 24 (.low, 8) ++ [(.low, 800)] ∧
    SendCfg.transmission ⟨false, 0, 0, 8, 0, 0, 0x00FFFFFF⟩ = List.replicate 24 (.high, 8) := by decide

/-- V-C9, V-E6 and V-E7: a SEND after reset, and one with nothing to send. -/
theorem test_send_from_reset :
    after (fun t => (t.seq, t.statusWord)) (exec (.wrCmd 0x2) State.reset) = some ([(.low, 800)], 1) ∧
    after (fun t => (t.seq, t.statusWord)) (exec (.wrCmd 0x2) { State.reset with treset := 0 }) = some ([], 0) := by decide

/-- V-C10: SEND while busy. -/
theorem test_send_rejected :
    after (fun t => (t.seq, t.statusWord)) (exec .send busyState) = some (busyState.seq, 5) := by decide

/-! ### The tick and reset -/

theorem test_tick :
    tick busyState = { busyState with seq := [(.high, 3), (.low, 8)], dout := .high, obs := [.line .high] } ∧
    (tick { busyState with seq := [(.high, 1), (.low, 8)] }).seq = [(.low, 8)] ∧
    (tick { State.reset with dout := .high }).dout = .low := by decide

theorem test_reset_cuts_short :
    nextOf (step { errState busyState.seq with inputs := [.reset], index := 7, dout := .high }) = some State.reset := by decide

/-- A word of each format, placed for fetch right after reset, is run by the next step. -/
theorem test_withFetchWord :
    after State.index (step ((mapStart false).withFetchWord 32 0x00130101)) = some 20 ∧
    after State.seen (step (State.reset.withFetchWord 16 0x110)) = some (some (.read 0x320)) ∧
    decodeTableWord 16 0x158 = some (.wrCmd 0) ∧ decodeTableWord 32 0x2 = some .send ∧ decodeTableWord 16 0x124 = none := by
  decide

/-! ### Witnesses: for each statement with hypotheses, values that meet them, clause by clause -/

theorem witness_RdStatusReturnsBusyAndErrors :
    State.reset.seq = [] ∧ State.reset.map_err = false ∧ State.reset.tx_reject = false ∧ State.reset.cmd_err = false ∧
    State.reset.snapshot.transmission ≠ [] := by decide

theorem witness_WrStatusClearsWhereOne : (errState []).statusWord = 0x0000000E := by decide

theorem witness_WrCtrlSetsFlipAndVariant : 9 < 10 ∧ 19 < 20 ∧ State.reset.seq = [] := by decide

theorem witness_WrTimingsSetHighAndLow :
    SendCfg.t0h ⟨false, 4, 8, 4, 8, 0, 0⟩ = SendCfg.t1h ⟨false, 4, 8, 4, 8, 0, 0⟩ ∧
    SendCfg.t0l ⟨false, 4, 8, 4, 8, 0, 0⟩ = SendCfg.t1l ⟨false, 4, 8, 4, 8, 0, 0⟩ := by decide

theorem witness_WrTrstSetsReset : State.reset.seq = [] ∧ (0xFFFF0000 : Word).extractLsb' 0 16 = 0 := by decide

theorem witness_WrCmdExecutesTheCommand :
    decode (.cmd 0x00000002) = .ok .send ∧ decode (.cmd 0x00000003) = .error (.cmd .opcode) ∧
    decode (.cmd 0x00000012) = .error (.cmd .reservedBits) := ⟨rfl, rfl, rfl⟩

theorem witness_RdIndexReturnsIndex : State.reset.ctrl_flip = false ∧
    (10 ≤ 255 ∧ 0 ≤ 255 ∧ (10 ≤ 10 ∨ 20 ≤ 0)) ∧ (0 ≤ 255 ∧ 20 ≤ 255 ∧ (10 ≤ 0 ∨ 20 ≤ 20)) ∧ (255 ≤ 255 ∧ 10 ≤ 255) := by decide

theorem witness_ReadsHaveNoSideEffect :
    ({ State.reset with inputs := [.access 0x120 0, .access 0x120 1] } : State).nextInput = .access 0x120 0 ∧
    ({ State.reset with inputs := [.access 0x120 0, .access 0x120 1] } : State).taken.nextInput = .access 0x120 1 ∧
    legalAccess 0x120 = true ∧ (0x120 : Desc).getLsbD 6 = false := by decide

theorem witness_NopChangesNothing : (0x000000F0 : Word).toNat % 16 = 0 ∧ (0x000000F0 : Word) ≠ 0 := by decide

theorem witness_ReservedCommandWordsSetCmdErrOnly :
    3 ≤ (0x00000003 : Word).toNat % 16 ∧ 3 ≤ (0xFF00000F : Word).toNat % 16 ∧
    ((0x010A0501 : Word).toNat % 16 < 3 ∧ (0x010A0501 : Word).toNat / 2 ^ 24 ≠ 0) ∧
    ((0x00000012 : Word).toNat % 16 < 3 ∧ (0x00000012 : Word).toNat / 2 ^ 4 % 2 ^ 4 ≠ 0) ∧
    ((0x00010002 : Word).toNat % 16 ≠ 1 ∧ (0x00010002 : Word).toNat / 2 ^ 8 % 2 ^ 16 ≠ 0) := by decide

theorem witness_CommandWordsMatchTheirMasks : decodeCommand 0x00FFFF01 = .ok (.map 255 255) := rfl

theorem witness_MapSetsIndexOrMapErr :
    (255 ≤ 255 ∧ 255 ≤ 255) ∧ (10 ≤ 10 ∨ 20 ≤ 19) ∧ (10 ≤ 9 ∨ 20 ≤ 20) ∧ (9 < 10 ∧ 19 < 20) ∧
    State.reset.ctrl_flip = false := by decide

/-- INDEX changes by a MAP, and by a reset. -/
theorem witness_OnlyMapOrResetChangesIndex :
    (∃ t, step { State.reset with inputs := [.access 0x158 0x00130901] } = .next t ∧ t.index ≠ State.reset.index) ∧
    (∃ t, step { mapStart false with inputs := [.reset] } = .next t ∧ t.index ≠ (mapStart false).index) :=
  ⟨⟨_, rfl, by decide⟩, ⟨_, rfl, by decide⟩⟩

theorem witness_MapClosedForm : (0 < 10 ∧ 19 < 20 ∧ 0 % 2 = 0) ∧ (9 < 10 ∧ 0 < 20 ∧ 9 % 2 = 1) := by decide

theorem witness_MapRangeFitsIndex : Config.boardOk 255 255 = true ∧ 254 < 255 ∧ 254 < 255 := by decide

theorem witness_MapIsBijection : 9 < 10 ∧ 19 < 20 ∧ 199 < 10 * 20 ∧ mapIndex 20 9 0 false = mapIndex 20 9 0 false := by decide

theorem witness_UnmapInvertsMap : 9 < 10 ∧ 19 < 20 ∧ 199 < 10 * 20 := by decide

theorem witness_SendLoadsTheTransmission :
    busyState.seq ≠ [] ∧ sendStart.seq = [] ∧ sendStart.snapshot = ⟨false, 4, 8, 8, 4, 800, 0x008000FF⟩ ∧
    (({ State.reset with treset := 0 } : State).seq = [] ∧ ({ State.reset with treset := 0 } : State).t0h = 0 ∧
      ({ State.reset with treset := 0 } : State).t0l = 0 ∧ ({ State.reset with treset := 0 } : State).t1h = 0 ∧
      ({ State.reset with treset := 0 } : State).t1l = 0 ∧ ({ State.reset with treset := 0 } : State).treset = 0) := by decide

theorem witness_PulseCountAndPositions : 3 < Config.channels true ∧ 2 < Config.channels false ∧ 7 < 8 := by decide

theorem witness_ZeroDurationsAreDropped : (1 : Nat) ≠ 0 ∧ (65535 : Nat) ≠ 0 := by decide

theorem witness_TransmissionDuration : 9 = cfgE1.bits.count true := by decide

theorem witness_TickDrivesTheHead :
    State.reset.seq = [] ∧ (lastTick []).seq = (.low, 1) :: [] ∧ busyState.seq = (.high, 2 + 2) :: [(.low, 8)] := by decide

/-- An accepted SEND after reset: one segment, whose span is ticks 0 to 799. -/
theorem witness_WaveformOfAnAcceptedSend :
    State.reset.seq = [] ∧ ∃ t, exec .send State.reset = .next t ∧ 0 < t.seq.length ∧
      ((t.seq.take 0).map Prod.snd).sum ≤ 799 ∧ 799 < ((t.seq.take 1).map Prod.snd).sum ∧
      (t.seq.map Prod.snd).sum ≤ 800 :=
  ⟨rfl, _, rfl, by decide, by decide, by decide, by decide⟩

/-- Two idle states with the same cfg that differ elsewhere. -/
theorem witness_SendIsDeterministic :
    State.reset.seq = [] ∧ (mapStart true).seq = [] ∧ State.reset.snapshot = (mapStart true).snapshot ∧
    (∃ t, exec .send State.reset = .next t) ∧ (∃ t, exec .send (mapStart true) = .next t) :=
  ⟨rfl, rfl, by decide, ⟨_, rfl⟩, ⟨_, rfl⟩⟩

theorem witness_FinalLowRunIsMerged :
    sendStart.seq = [] ∧ (∃ t, exec .send sendStart = .next t ∧
      (t.seq.map Prod.snd).sum - ((if false then sendStart.t1l.toNat else sendStart.t0l.toNat) + sendStart.treset.toNat) ≤ 280) ∧
    sendStart.snapshot.bits.getLast? = some false :=
  ⟨rfl, ⟨_, rfl, by decide⟩, by decide⟩

/-- An access while busy that writes a register the transmission was built from. -/
theorem witness_NoAccessTouchesATransmission :
    busyState.seq ≠ [] ∧ ∃ t, step { busyState with inputs := [.access 0x154 0] } = .next t :=
  ⟨by decide, _, rfl⟩

theorem witness_OnlySendStartsATransmission :
    State.reset.seq = [] ∧ ∃ t, step { State.reset with inputs := [.access 0x158 0x00000002] } = .next t ∧ t.seq ≠ [] :=
  ⟨rfl, _, rfl, by decide⟩

/-- Twelve ticks for the twelve of the busy state; a fair schedule that polls between ticks; a schedule that only polls. -/
theorem witness_TransmissionEndsWhenTicksCome :
    (SeqOk busyState.seq ∧ (busyState.seq.map Prod.snd).sum = 12 ∧
      State.QuietFor { busyState with inputs := List.replicate 12 .tick } 12) ∧
    WeaklyFair (fun k => if k % 2 = 0 then .access 0x104 0 else .tick) busyState ∧
    (∀ k, ∃ desc data, (fun _ => Input.access 0x104 0 : Schedule) k = .access desc data) ∧ busyState.seq ≠ [] := by
  refine ⟨by decide, fun n _ => ⟨2 * n + 1, by omega, by simp⟩, fun _ => ⟨_, _, rfl⟩, by decide⟩

/-- Each error bit, cleared by its own write. -/
theorem witness_ErrorBitsAreSticky :
    (errState []).map_err = true ∧ (errState []).tx_reject = true ∧ (errState []).cmd_err = true ∧
    ∃ t, step { errState [] with inputs := [.access 0x144 0x0000000E] } = .next t ∧
      t.map_err = false ∧ t.tx_reject = false ∧ t.cmd_err = false :=
  ⟨rfl, rfl, rfl, _, rfl, by decide, by decide, by decide⟩

theorem witness_OnlyCommandsTicksAndStatusChangeFlags :
    (0x15C : Desc) ≠ 0x158 ∧ (0x15C : Desc) ≠ 0x144 ∧
    ∃ t, step { errState [] with inputs := [.access 0x15C 0] } = .next t :=
  ⟨by decide, by decide, _, rfl⟩

/-- Each error bit set by its cause: P3's three commands. -/
theorem witness_ErrorBitsAreSetByTheirCause :
    (∃ t, step { State.reset with inputs := [.access 0x158 0x00000A01] } = .next t ∧ t.map_err = true) ∧
    (∃ t, step { busyState with inputs := [.access 0x158 0x00000002] } = .next t ∧ t.tx_reject = true) ∧
    (∃ t, step { State.reset with inputs := [.access 0x158 0x00000003] } = .next t ∧ t.cmd_err = true) :=
  ⟨⟨_, rfl, rfl⟩, ⟨_, rfl, rfl⟩, ⟨_, rfl, rfl⟩⟩

theorem witness_SendRacingTheLastTick :
    (lastTick [.access 0x158 2, .tick]).seq = [(.low, 1)] ∧
    (lastTick [.access 0x158 2, .tick]).nextInput = .access 0x158 0x00000002 ∧
    (lastTick [.access 0x158 2, .tick]).taken.nextInput = .tick ∧
    (lastTick [.tick, .access 0x158 2]).nextInput = .tick ∧
    (lastTick [.tick, .access 0x158 2]).taken.nextInput = .access 0x158 0x00000002 := by decide

/-- A host that waits, and one that does not. -/
theorem witness_WaitingHostIsNeverRejected :
    ({ State.reset with inputs := [.access 0x158 0x00000002] } : State).hostWaits = true ∧
    ({ busyState with inputs := [.access 0x158 0x00000002] } : State).hostWaits = false ∧ State.reset.tx_reject = false ∧
    ∃ t, step { State.reset with inputs := [.access 0x158 0x00000002] } = .next t :=
  ⟨by decide, by decide, rfl, _, rfl⟩

theorem witness_DescriptorChecksInOrder :
    (0x0FC : Desc).toNat / 128 ≠ 2 ∧ (0x180 : Desc).toNat / 128 ≠ 2 ∧
    ((0x17F : Desc).toNat / 128 = 2 ∧ (0x17F : Desc).toNat % 4 ≠ 0) ∧
    ((0x124 : Desc).toNat / 128 = 2 ∧ (0x124 : Desc).toNat % 4 = 0 ∧ 0x20 < (0x124 : Desc).toNat % 64) ∧
    ((0x120 : Desc).toNat / 128 = 2 ∧ (0x120 : Desc).toNat % 4 = 0 ∧ (0x120 : Desc).toNat % 64 ≤ 0x20) := by decide

theorem witness_BusErrorChangesNothing :
    ({ busyState with inputs := [.access 0x124 0] } : State).nextInput = .access 0x124 0 ∧ legalAccess 0x124 = false ∧
    legalAccess 0x120 = true := by decide

theorem witness_StepRunsTheNextInput :
    inputOf (.bus 0x100 0) = .access 0x100 0 ∧ decode (.bus 0x100 0) = .ok .rdCtrl ∧
    inputOf (.cmd 2) = .access 0x158 2 ∧ decode (.cmd 2) = .ok .send ∧
    ({ State.reset with inputs := [.access 0x158 2] } : State).nextInput = inputOf (.cmd 2) ∧
    (lastTick [.tick]).nextInput = .tick ∧ (lastTick [.reset]).nextInput = .reset ∧
    (lastTick [.tick]).inputs = .tick :: [] ∧ (lastTick []).inputs = [] :=
  ⟨rfl, rfl, rfl, rfl, rfl, rfl, rfl, rfl, rfl⟩

theorem witness_PlacedTableWordRuns :
    decodeTableWord 16 0x158 = some (.wrCmd 0) ∧ decodeTableWord 32 0x00FFFF01 = some (.map 255 255) := by decide

theorem witness_DecodeInvertsEncode : (Instr.map 255 255).wellFormed = true ∧ (Instr.wrCmd 0xFFFFFFFF).wellFormed = true := by
  decide

theorem witness_EncodeInvertsDecode :
    decode (.bus 0x120 0xFFFFFFFF) = .ok .rdInfo ∧ decode (.cmd 0x00FFFF01) = .ok (.map 255 255) := ⟨rfl, rfl⟩

theorem witness_ApertureRoutesItsAddresses : Config.base + 64 < Config.base ∨ Config.base + 64 ≤ Config.base + 64 := .inr le_rfl

/-- A one-byte read at offset 0, and a four-byte write at offset 63. -/
theorem witness_NarrowOrMisalignedAccessFaults :
    memRead (Config.base + (0 : Offset).toNat) 1 = some (.access 0x000 0) ∧ (1 ≠ 4 ∨ (0 : Offset).toNat % 4 ≠ 0) ∧
    memWrite (Config.base + (63 : Offset).toNat) 4 5 = some (.access 0x17F 5) ∧ (4 ≠ 4 ∨ (63 : Offset).toNat % 4 ≠ 0) := by
  refine ⟨?_, by decide, ?_, by decide⟩
  · simp [memRead, route, descOf, sizeCode]
  · simp [memWrite, route, descOf, sizeCode]

theorem witness_ByteLanesAreLittleEndian : 3 < 4 ∧ 7 < 8 ∧ lane 0x44332211 3 = 0x44 ∧ lane 0x44332211 0 = 0x11 := by decide

theorem witness_PseudoInstructionsExpand :
    (255 ≤ 255 ∧ 65535 ≤ 65535) ∧ (255 < 256 ∨ 255 < 0) ∧ (65535 < 65536 ∨ 65535 < 0) ∧ 65535 < 65536 ∧
    (255 < 0 ∨ 255 < 256 ∨ 255 < 0) ∧ 255 < 256 := by decide

theorem witness_ResetSetsEveryValue : (lastTick [.reset, .tick]).nextInput = .reset := rfl

theorem witness_ResetCutsATransmissionShort : (lastTick [.reset]).nextInput = .reset ∧ (lastTick [.reset]).seq ≠ [] := by decide

/-- A state that meets the invariant at its bounds, and steps. -/
theorem witness_StepKeepsInvariant :
    State.Inv { State.reset with seq := List.replicate 65 (.high, 65535), index := 199, inputs := [.tick] } ∧
    ∃ t, step { State.reset with seq := List.replicate 65 (.high, 65535), index := 199, inputs := [.tick] } = .next t :=
  ⟨by decide, _, rfl⟩

theorem witness_LegalHostNeverFaults :
    State.LegalFor { State.reset with inputs := [.access 0x160 0, .tick, .reset, .access 0x100 0] } 4 := by decide

theorem witness_ObservationNeverFeedsBack : ∃ t, step { State.reset with inputs := [.access 0x104 0] } = .next t := ⟨_, rfl⟩

end Sys2Proof.Tests
end

section
/-! Family 00_scope: the trace is written and never read (R13). -/

namespace Sys2Proof.Machine

/-- From `s`, whatever the trace holds, `f` goes on to `t` but for the trace, and puts `new` ahead of that (R13). -/
def AddsToTrace (f : State → Result) (s : State) (new : List Obs) (t : State) : Prop :=
  ∀ trace, f { s with obs := trace } = .next { t with obs := new ++ trace }

/-- The trace that `s` holds is one of those `AddsToTrace` speaks of, so its `t` is the next state but for the trace. -/
theorem AddsToTrace.of_next {f : State → Result} {s t u : State} {new : List Obs} (h : AddsToTrace f s new u)
    (ht : f s = .next t) : t.obs = new ++ s.obs ∧ AddsToTrace f s new t := by
  have hu : t = { u with obs := new ++ s.obs } := Host.Outcome.next.inj (ht.symm.trans (h s.obs))
  subst hu
  exact ⟨rfl, h⟩

theorem execMap_addsToTrace (x y : Nat) (s : State) : ∃ t, AddsToTrace (execMap x y) s [] t := by
  by_cases h : Config.W ≤ x ∨ Config.H ≤ y
  · exact ⟨s.raiseMapErr, fun _ => if_pos h⟩
  · exact ⟨s.setIndex (BitVec.ofNat 16 (mapIndex Config.H x y s.ctrl_flip)), fun _ => if_neg h⟩

theorem execSend_addsToTrace (s : State) : ∃ t, AddsToTrace execSend s [] t := by
  by_cases h : s.busy
  · exact ⟨s.raiseTxReject, fun _ => if_pos h⟩
  · exact ⟨s.setSeq s.snapshot.transmission, fun _ => if_neg h⟩

theorem executeCommand_addsToTrace (d : Word) (s : State) : ∃ t, AddsToTrace (executeCommand d) s [] t := by
  cases h : decodeCommand d with
  | error e => exact ⟨s.raiseCmdErr, fun _ => executeCommand_error h _⟩
  | ok c =>
    have hc : executeCommand d = exec c.instr := funext (executeCommand_ok h)
    rw [hc]
    cases c with
    | nop => exact ⟨s, fun _ => rfl⟩
    | map x y => exact execMap_addsToTrace x y s
    | send => exact execSend_addsToTrace s

/-- A read adds the value it returns; no other instruction adds anything. -/
theorem exec_addsToTrace (i : Instr) (s : State) : ∃ new t, new.length ≤ 1 ∧ AddsToTrace (exec i) s new t := by
  have silent {t : State} (h : AddsToTrace (exec i) s [] t) :
      ∃ new t, new.length ≤ 1 ∧ AddsToTrace (exec i) s new t := ⟨[], t, Nat.zero_le 1, h⟩
  have answers {v : Word} (h : AddsToTrace (exec i) s [.read v] s) :
      ∃ new t, new.length ≤ 1 ∧ AddsToTrace (exec i) s new t := ⟨[.read v], s, le_rfl, h⟩
  cases i with
  | rdCtrl => exact answers (v := s.ctrlWord) fun _ => rfl
  | wrCtrl d => exact silent (t := s.setCtrl (d.getLsbD 0) (d.getLsbD 1)) fun _ => rfl
  | rdStatus => exact answers (v := s.statusWord) fun _ => rfl
  | wrStatus d => exact silent (t := s.clearErrors d) fun _ => rfl
  | rdT0 => exact answers (v := s.t0Word) fun _ => rfl
  | wrT0 d => exact silent (t := s.setT0 (lowHalf d) (highHalf d)) fun _ => rfl
  | rdT1 => exact answers (v := s.t1Word) fun _ => rfl
  | wrT1 d => exact silent (t := s.setT1 (lowHalf d) (highHalf d)) fun _ => rfl
  | rdTrst => exact answers (v := s.trstWord) fun _ => rfl
  | wrTrst d => exact silent (t := s.setTrst (lowHalf d)) fun _ => rfl
  | rdColor => exact answers (v := s.colorWord) fun _ => rfl
  | wrColor d => exact silent (t := s.setColor d) fun _ => rfl
  | rdCmd => exact answers (v := 0) fun _ => rfl
  | wrCmd d => exact (executeCommand_addsToTrace d s).elim fun _ => silent
  | rdIndex => exact answers (v := s.indexWord) fun _ => rfl
  | rdInfo => exact answers (v := infoWord) fun _ => rfl
  | wrIndex _ | wrInfo _ | nop => exact silent (t := s) fun _ => rfl
  | map x y => exact (execMap_addsToTrace x y s).elim fun _ => silent
  | send => exact (execSend_addsToTrace s).elim fun _ => silent

/-- A tick adds the level it drives. -/
theorem tick_addsToTrace (s : State) : AddsToTrace (serve .tick) s [.line (tick s).dout] (tick s) := by
  intro trace
  rw [serve_tick]
  rcases tick_cases s with ⟨hs, ht⟩ | ⟨lv, d, rest, hs, ht⟩
  · rw [ht, tick_idle (s := { s with obs := trace }) hs]
    rfl
  · rw [ht, tick_cons (s := { s with obs := trace }) hs]
    rfl

/-- Serving an input adds at most one observation, unless the input is an access that faults. -/
theorem serve_addsToTrace {e : Input} {s t : State} (h : serve e s = .next t) :
    ∃ new u, new.length ≤ 1 ∧ AddsToTrace (serve e) s new u := by
  cases e with
  | tick => exact ⟨_, _, le_rfl, tick_addsToTrace s⟩
  | reset => exact ⟨[], s.applyReset, Nat.zero_le 1, fun _ => rfl⟩
  | access desc data =>
    cases hd : decodeBus desc data with
    | error err => rw [serve_access_error hd] at h; cases h
    | ok i =>
      have hi : serve (.access desc data) = exec i := funext (serve_access_ok hd)
      rw [hi]
      exact exec_addsToTrace i s

/-- Which input is next, and what taking it leaves, does not depend on the trace: a step adds what serving that input adds. -/
theorem step_addsToTrace {s u : State} {new : List Obs} (h : AddsToTrace (serve s.nextInput) s.taken new u) :
    AddsToTrace step s new u :=
  h

/-- Settles O60: the input served is the same under every trace, and serving it only puts something ahead of the trace. -/
theorem observationNeverFeedsBack : Obligations.ObservationNeverFeedsBack := by
  unfold Obligations.ObservationNeverFeedsBack
  intro s t h
  obtain ⟨new, u, hlen, hu⟩ := serve_addsToTrace h
  obtain ⟨hobs, hadds⟩ := (step_addsToTrace hu).of_next h
  exact ⟨new, hobs, hlen, hadds⟩

end Sys2Proof.Machine
end

section
/-! Family 10_state: what every step keeps (R27, R33), and what writes INDEX, a flag, SEQ or DOUT (R30, R31, R34). -/

namespace Sys2Proof.Machine

/-! ### The mapper and the encoder stay within the state's bounds -/

/-- An index lies in its column's block of `h` (R90). -/
theorem mapIndex_eq_column_add (h x y : Nat) (f : Bool) (hy : y < h) :
    ∃ r, r < h ∧ mapIndex h x y f = x * h + r := by
  unfold mapIndex
  have hflip : flipRow h y f < h := by unfold flipRow; split <;> omega
  split
  · exact ⟨_, hflip, rfl⟩
  · exact ⟨_, by omega, rfl⟩

/-- The index of a cell of the board names an LED (R90). -/
theorem mapIndex_lt {w h x y : Nat} (f : Bool) (hx : x < w) (hy : y < h) : mapIndex h x y f < w * h := by
  obtain ⟨r, hr, he⟩ := mapIndex_eq_column_add h x y f hy
  calc mapIndex h x y f = x * h + r := he
    _ < (x + 1) * h := by rw [Nat.succ_mul]; omega
    _ ≤ w * h := Nat.mul_le_mul_right h hx

/-- INDEX's 16 bits hold the index of a cell of the board. -/
theorem ofNat_mapIndex_toNat {x y : Nat} (f : Bool) (hx : x < Config.W) (hy : y < Config.H) :
    (BitVec.ofNat 16 (mapIndex Config.H x y f)).toNat = mapIndex Config.H x y f := by
  have hlt : mapIndex Config.H x y f < 10 * 20 := mapIndex_lt f hx hy
  rw [BitVec.toNat_ofNat, Nat.mod_eq_of_lt (by omega)]

theorem bitPulse_segments_length (cfg : SendCfg) (b : Bool) : (cfg.bitPulse b).segments.length = 2 := by
  cases b <;> rfl

/-- Two segments a bit and one for the reset pulse, before the zero durations are dropped (R33). -/
theorem pulses_segments_length (cfg : SendCfg) :
    (cfg.pulses.flatMap Pulse.segments).length = 2 * cfg.bits.length + 1 := by
  have hbits : ((cfg.bits.map cfg.bitPulse).flatMap Pulse.segments).length = 2 * cfg.bits.length := by
    induction cfg.bits with
    | nil => rfl
    | cons b bs ih => simp [bitPulse_segments_length, ih, Nat.mul_succ, Nat.add_comm]
  simp [SendCfg.pulses, hbits, Pulse.segments]

/-- "Its largest length is `2*8*4 + 1 = 65` segments" (R33). -/
theorem transmission_length_le (cfg : SendCfg) : cfg.transmission.length ≤ 65 := by
  have hchans : Config.channels cfg.rgbw ≤ 4 := by cases cfg.rgbw <;> decide
  calc cfg.transmission.length ≤ (cfg.pulses.flatMap Pulse.segments).length := List.length_filter_le ..
    _ = 2 * (8 * Config.channels cfg.rgbw) + 1 := by rw [pulses_segments_length, bits_length]
    _ ≤ 65 := by omega

/-- Every duration of a pulse is a 16-bit register field. -/
theorem pulse_segment_le {cfg : SendCfg} {p : Pulse} {g : Segment} (hp : p ∈ cfg.pulses) (hg : g ∈ p.segments) :
    g.2 ≤ 65535 := by
  have field (v : BitVec 16) : v.toNat ≤ 65535 := Nat.le_of_lt_succ v.isLt
  rcases List.mem_append.mp hp with hbit | hreset
  · obtain ⟨b, -, rfl⟩ := List.mem_map.mp hbit
    cases b with
    | false => rcases List.mem_pair.mp hg with rfl | rfl <;> exact field _
    | true => rcases List.mem_pair.mp hg with rfl | rfl <;> exact field _
  · obtain rfl := List.mem_singleton.mp hreset
    obtain rfl := List.mem_singleton.mp hg
    exact field _

/-- What an accepted SEND loads is within R33's bounds: `nonzero` gives the lower one, the registers' width the upper. -/
theorem transmission_seqOk (cfg : SendCfg) : SeqOk cfg.transmission := by
  intro g hg
  obtain ⟨hmem, hne⟩ := List.mem_filter.mp hg
  obtain ⟨p, hp, hgp⟩ := List.mem_flatMap.mp hmem
  exact ⟨Nat.pos_of_ne_zero (of_decide_eq_true hne), pulse_segment_le hp hgp⟩

/-! ### The invariant, one lemma for each kind of input -/

theorem effect_of_exec {i : Instr} {s t : State} (h : exec i s = .next t) : Effect s t := by
  obtain ⟨u, hu, he⟩ := exec_effect i s
  obtain rfl := Host.Outcome.next.inj (hu.symm.trans h)
  exact he

theorem Effect.inv {s t : State} (he : Effect s t) (h : s.Inv) : t.Inv := by
  obtain ⟨hseq, hlen, hidx⟩ := h
  cases he with
  | setIndex x y hx hy =>
    refine ⟨hseq, hlen, ?_⟩
    rw [State.setIndex_index, ofNat_mapIndex_toNat _ hx hy]
    exact mapIndex_lt _ hx hy
  | setSeq _ => exact ⟨transmission_seqOk _, transmission_length_le _, hidx⟩
  | nothing | answer _ | setCtrl _ _ | clearErrors _ | setT0 _ _ | setT1 _ _ | setTrst _ | setColor _ | raiseMapErr
  | raiseTxReject _ | raiseCmdErr => exact ⟨hseq, hlen, hidx⟩

theorem tick_inv {s : State} (h : s.Inv) : (tick s).Inv := by
  obtain ⟨hseq, hlen, hidx⟩ := h
  rcases tick_cases s with ⟨-, ht⟩ | ⟨lv, d, rest, hs, ht⟩
  · rw [ht]
    exact ⟨List.forall_mem_nil _, Nat.zero_le _, hidx⟩
  · rw [hs] at hseq hlen
    obtain ⟨⟨hd1, hd2⟩, hrest⟩ := List.forall_mem_cons.mp hseq
    rw [ht]
    by_cases hd : d = 1
    · rw [if_pos hd]
      exact ⟨hrest, Nat.le_of_succ_le hlen, hidx⟩
    · rw [if_neg hd]
      have hhead : SegmentOk (lv, d - 1) :=
        ⟨Nat.le_sub_one_of_lt (Nat.lt_of_le_of_ne hd1 (Ne.symm hd)), (Nat.sub_le d 1).trans hd2⟩
      exact ⟨List.forall_mem_cons.mpr ⟨hhead, hrest⟩, hlen, hidx⟩

/-- Settles O57: after reset SEQ is empty and INDEX is 0. -/
theorem invariantAtReset : Obligations.InvariantAtReset :=
  ⟨List.forall_mem_nil _, Nat.zero_le _, by decide⟩

/-- Settles O56: a tick, a reset and each effect of an access keep the invariant. -/
theorem stepKeepsInvariant : Obligations.StepKeepsInvariant := by
  unfold Obligations.StepKeepsInvariant
  intro s t hinv h
  have htaken : s.taken.Inv := hinv
  rcases step_next_cases h with ⟨-, rfl⟩ | ⟨-, rfl⟩ | ⟨desc, data, i, -, -, hx⟩
  · exact tick_inv htaken
  · exact invariantAtReset
  · exact (effect_of_exec hx).inv htaken

/-! ### What an access can do, by the register it selects -/

theorem step_access {s t : State} {desc : Desc} {data : Word} (hi : s.nextInput = .access desc data)
    (h : step s = .next t) : ∃ i, decodeBus desc data = .ok i ∧ exec i s.taken = .next t := by
  rcases step_next_cases h with ⟨ht, -⟩ | ⟨hr, -⟩ | ⟨desc', data', i, ha, hd, hx⟩
  · cases hi.symm.trans ht
  · cases hi.symm.trans hr
  · cases hi.symm.trans ha
    exact ⟨i, hd, hx⟩

/-- A 32-bit access is the descriptor of its direction and its offset (R54). -/
theorem eq_desc32_of_descSize {desc : Desc} (h : descSize desc = 0b10) : desc = desc32 (descWrite desc) (descOffset desc) := by
  have hsize : 2 = desc.toNat / 2 ^ 7 := by rw [← descSize_toNat, h]; rfl
  have hwrite : (descWrite desc).toNat = desc.toNat / 2 ^ 6 % 2 := Nat.toNat_testBit desc.toNat 6
  apply BitVec.eq_of_toNat_eq
  rw [desc32_toNat, descOffset_toNat, hwrite]
  omega

theorem accessAt_wrCmd {off : Offset} {w : Bool} {data d : Word} (h : accessAt off w data = some (.wrCmd d)) :
    off = 0x18 ∧ w = true ∧ d = data := by
  cases w with
  | false => simp [accessAt, ite_eq_iff] at h
  | true =>
    simp only [accessAt, ite_eq_iff, if_true, Option.some.injEq, Instr.wrCmd.injEq, reduceCtorEq, and_false, or_false,
      false_or] at h
    obtain ⟨-, -, -, -, -, -, hoff, hd⟩ := h
    exact ⟨hoff, rfl, hd.symm⟩

theorem accessAt_wrStatus {off : Offset} {w : Bool} {data d : Word} (h : accessAt off w data = some (.wrStatus d)) :
    off = 0x04 ∧ w = true ∧ d = data := by
  cases w with
  | false => simp [accessAt, ite_eq_iff] at h
  | true =>
    simp only [accessAt, ite_eq_iff, if_true, Option.some.injEq, Instr.wrStatus.injEq, reduceCtorEq, and_false, or_false,
      false_or] at h
    obtain ⟨-, hoff, hd⟩ := h
    exact ⟨hoff, rfl, hd.symm⟩

/-- The decoder of a descriptor names no command: a command comes as the data word of a write to CMD (R53). -/
theorem accessAt_ne_command (off : Offset) (w : Bool) (data : Word) (c : Command) :
    accessAt off w data ≠ some c.instr := by
  cases w <;> cases c <;> simp [accessAt, ite_eq_iff, Command.instr]

theorem decodeBus_wrCmd {desc : Desc} {data d : Word} (h : decodeBus desc data = .ok (.wrCmd d)) :
    desc = 0x158 ∧ d = data := by
  obtain ⟨hsize, -, hacc⟩ := decodeBus_ok h
  obtain ⟨hoff, hw, hd⟩ := accessAt_wrCmd hacc
  have hdesc := eq_desc32_of_descSize hsize
  rw [hw, hoff] at hdesc
  exact ⟨hdesc, hd⟩

theorem decodeBus_wrStatus {desc : Desc} {data d : Word} (h : decodeBus desc data = .ok (.wrStatus d)) :
    desc = 0x144 ∧ d = data := by
  obtain ⟨hsize, -, hacc⟩ := decodeBus_ok h
  obtain ⟨hoff, hw, hd⟩ := accessAt_wrStatus hacc
  have hdesc := eq_desc32_of_descSize hsize
  rw [hw, hoff] at hdesc
  exact ⟨hdesc, hd⟩

theorem decodeBus_ne_command (desc : Desc) (data : Word) (c : Command) : decodeBus desc data ≠ .ok c.instr := by
  intro h
  obtain ⟨-, -, hacc⟩ := decodeBus_ok h
  exact accessAt_ne_command _ _ _ c hacc

/-- What the command word `d` does to `s`: one constructor for each way through `execute_command` (R82). -/
inductive CommandEffect (d : Word) (s : State) : State → Prop where
  | undecodable {e : CmdErrorCause} (h : decodeCommand d = .error e) : CommandEffect d s s.raiseCmdErr
  | nop (h : decodeCommand d = .ok .nop) : CommandEffect d s s
  | mapOff {x y : Nat} (h : decodeCommand d = .ok (.map x y)) (hxy : Config.W ≤ x ∨ Config.H ≤ y) :
      CommandEffect d s s.raiseMapErr
  | mapOn {x y : Nat} (h : decodeCommand d = .ok (.map x y)) (hx : x < Config.W) (hy : y < Config.H) :
      CommandEffect d s (s.setIndex (BitVec.ofNat 16 (mapIndex Config.H x y s.ctrl_flip)))
  | sendBusy (h : decodeCommand d = .ok .send) (hs : s.seq ≠ []) : CommandEffect d s s.raiseTxReject
  | sendIdle (h : decodeCommand d = .ok .send) (hs : s.seq = []) : CommandEffect d s (s.setSeq s.snapshot.transmission)

theorem commandEffect_of_executeCommand {d : Word} {s t : State} (h : executeCommand d s = .next t) :
    CommandEffect d s t := by
  cases hd : decodeCommand d with
  | error e =>
    rw [executeCommand_error hd] at h
    cases h
    exact .undecodable hd
  | ok c =>
    rw [executeCommand_ok hd] at h
    cases c with
    | nop => cases h; exact .nop hd
    | map x y =>
      rcases execMap_cases x y s with ⟨hxy, hm⟩ | ⟨hx, hy, hm⟩ <;> cases hm.symm.trans h
      · exact .mapOff hd hxy
      · exact .mapOn hd hx hy
    | send =>
      rcases execSend_cases s with ⟨hs, hm⟩ | ⟨hs, hm⟩ <;> cases hm.symm.trans h
      · exact .sendBusy hd hs
      · exact .sendIdle hd hs

/-- `t` holds what `s` holds in INDEX, the flags, SEQ and DOUT. -/
structure SameFlags (s t : State) : Prop where
  index : t.index = s.index
  map_err : t.map_err = s.map_err
  tx_reject : t.tx_reject = s.tx_reject
  cmd_err : t.cmd_err = s.cmd_err
  seq : t.seq = s.seq
  dout : t.dout = s.dout

/-- What an access that passes the descriptor checks does: a write to CMD runs its command, a write to STATUS clears error
bits, and any other access leaves INDEX, the flags, SEQ and DOUT alone (R31). -/
inductive AccessEffect (desc : Desc) (data : Word) (s : State) : State → Prop where
  | command {t : State} (hdesc : desc = 0x158) (h : CommandEffect data s t) : AccessEffect desc data s t
  | statusWrite (hdesc : desc = 0x144) : AccessEffect desc data s (s.clearErrors data)
  | other {t : State} (h : SameFlags s t) : AccessEffect desc data s t

theorem accessEffect_of_exec {desc : Desc} {data : Word} {i : Instr} {s t : State} (hd : decodeBus desc data = .ok i)
    (h : exec i s = .next t) : AccessEffect desc data s t := by
  cases i with
  | wrCmd d =>
    obtain ⟨hdesc, rfl⟩ := decodeBus_wrCmd hd
    exact .command hdesc (commandEffect_of_executeCommand h)
  | wrStatus d =>
    obtain ⟨hdesc, rfl⟩ := decodeBus_wrStatus hd
    cases h
    exact .statusWrite hdesc
  | nop => exact absurd hd (decodeBus_ne_command _ _ .nop)
  | map x y => exact absurd hd (decodeBus_ne_command _ _ (.map x y))
  | send => exact absurd hd (decodeBus_ne_command _ _ .send)
  | rdCtrl | wrCtrl _ | rdStatus | rdT0 | wrT0 _ | rdT1 | wrT1 _ | rdTrst | wrTrst _ | rdColor | wrColor _ | rdCmd
  | rdIndex | wrIndex _ | rdInfo | wrInfo _ =>
    cases h
    exact .other ⟨rfl, rfl, rfl, rfl, rfl, rfl⟩

theorem step_accessEffect {s t : State} {desc : Desc} {data : Word} (hi : s.nextInput = .access desc data)
    (h : step s = .next t) : AccessEffect desc data s.taken t := by
  obtain ⟨i, hd, hx⟩ := step_access hi h
  exact accessEffect_of_exec hd hx

/-! ### INDEX, DOUT and SEQ -/

/-- A command that changes INDEX is a MAP of a cell of the board. -/
theorem CommandEffect.index_cases {d : Word} {s t : State} (h : CommandEffect d s t) :
    t.index = s.index ∨ ∃ x y, decodeCommand d = .ok (.map x y) ∧ x < Config.W ∧ y < Config.H ∧
      t.index.toNat = mapIndex Config.H x y s.ctrl_flip := by
  cases h with
  | mapOn hd hx hy => exact .inr ⟨_, _, hd, hx, hy, ofNat_mapIndex_toNat _ hx hy⟩
  | undecodable _ | nop _ | mapOff _ _ | sendBusy _ _ | sendIdle _ _ => exact .inl rfl

/-- Settles O21: no tick writes INDEX, and the only access that does is a command that maps. -/
theorem onlyMapOrResetChangesIndex : Obligations.OnlyMapOrResetChangesIndex := by
  unfold Obligations.OnlyMapOrResetChangesIndex
  intro s t h hne
  cases hi : s.nextInput with
  | reset => exact .inl rfl
  | tick =>
    rw [step_of hi] at h
    obtain ⟨lv, segs, htick⟩ := tick_frame s.taken
    rw [serve_tick, htick] at h
    cases h
    exact absurd rfl hne
  | access desc data =>
    cases step_accessEffect hi h with
    | statusWrite _ => exact absurd rfl hne
    | other hsame => exact absurd hsame.index hne
    | command hdesc hcmd =>
      obtain ⟨x, y, hd, hx, hy, hidx⟩ := hcmd.index_cases.resolve_left hne
      exact .inr ⟨data, x, y, by rw [hdesc], hd, hx, hy, hidx⟩

/-- No effect of an access drives the line, and only that of an accepted SEND writes SEQ. -/
theorem Effect.keeps_line {s t : State} (he : Effect s t) : t.dout = s.dout ∧ (s.seq ≠ [] → t.seq = s.seq) := by
  cases he with
  | setSeq hidle => exact ⟨rfl, fun hbusy => absurd hidle hbusy⟩
  | nothing | answer _ | setCtrl _ _ | clearErrors _ | setT0 _ _ | setT1 _ _ | setTrst _ | setColor _ | setIndex _ _ _ _
  | raiseMapErr | raiseTxReject _ | raiseCmdErr => exact ⟨rfl, fun _ => rfl⟩

/-- Settles O34: an access that answers a next state has run one instruction, and no instruction's effect touches the line. -/
theorem noAccessTouchesATransmission : Obligations.NoAccessTouchesATransmission := by
  unfold Obligations.NoAccessTouchesATransmission
  intro s t desc d hi h
  obtain ⟨i, -, hx⟩ := step_access hi h
  exact (effect_of_exec hx).keeps_line

/-! ### The flags -/

/-- Every error bit that is 1 in `s` is 1 in `t`. -/
structure KeepsErrors (s t : State) : Prop where
  map_err : s.map_err = true → t.map_err = true
  tx_reject : s.tx_reject = true → t.tx_reject = true
  cmd_err : s.cmd_err = true → t.cmd_err = true

theorem SameFlags.keepsErrors {s t : State} (h : SameFlags s t) : KeepsErrors s t :=
  ⟨h.map_err.trans, h.tx_reject.trans, h.cmd_err.trans⟩

/-- "A later command that succeeds does not clear it" (R30), nor does one that fails. -/
theorem CommandEffect.keepsErrors {d : Word} {s t : State} (h : CommandEffect d s t) : KeepsErrors s t := by
  cases h with
  | undecodable _ => exact ⟨id, id, fun _ => rfl⟩
  | mapOff _ _ => exact ⟨fun _ => rfl, id, id⟩
  | sendBusy _ _ => exact ⟨id, fun _ => rfl, id⟩
  | nop _ | mapOn _ _ _ | sendIdle _ _ => exact ⟨id, id, id⟩

theorem tick_keepsErrors (s : State) : KeepsErrors s (tick s) := by
  obtain ⟨lv, segs, h⟩ := tick_frame s
  rw [h]
  exact ⟨id, id, id⟩

/-- Every step but a reset keeps the error bits, or is the write to STATUS that clears some. -/
theorem step_keepsErrors_or_statusWrite {s t : State} (h : step s = .next t) (hr : s.nextInput ≠ .reset) :
    KeepsErrors s.taken t ∨ ∃ d, s.nextInput = .access 0x144 d ∧ t = s.taken.clearErrors d := by
  cases hi : s.nextInput with
  | reset => exact absurd hi hr
  | tick =>
    rw [step_of hi] at h
    cases h
    exact .inl (tick_keepsErrors s.taken)
  | access desc data =>
    cases step_accessEffect hi h with
    | command _ hcmd => exact .inl hcmd.keepsErrors
    | other hsame => exact .inl hsame.keepsErrors
    | statusWrite hdesc => exact .inr ⟨data, by rw [hdesc], rfl⟩

/-- Settles O37: a step that clears an error bit is a write to STATUS, and that clears the bits where its word has a 1. -/
theorem errorBitsAreSticky : Obligations.ErrorBitsAreSticky := by
  unfold Obligations.ErrorBitsAreSticky
  intro s t h hr
  rcases step_keepsErrors_or_statusWrite h hr with hkeep | ⟨d, hi, rfl⟩
  · have kept {a b : Bool} {P : Prop} (hab : a = true → b = true) (ha : a = true) (hb : b = false) : P := by
      simp [hab ha] at hb
    exact ⟨kept hkeep.map_err, kept hkeep.tx_reject, kept hkeep.cmd_err⟩
  · have written {a b : Bool} (ha : a = true) (hb : (a && !b) = false) : b = true := by simpa [ha] using hb
    exact ⟨fun ha hb => ⟨d, hi, written ha hb⟩, fun ha hb => ⟨d, hi, written ha hb⟩, fun ha hb => ⟨d, hi, written ha hb⟩⟩

/-- Settles O38: an access that is no write to CMD or STATUS leaves the error bits, and SEQ, from which BUSY is read. -/
theorem onlyCommandsTicksAndStatusChangeFlags : Obligations.OnlyCommandsTicksAndStatusChangeFlags := by
  unfold Obligations.OnlyCommandsTicksAndStatusChangeFlags
  intro s t desc d hi hcmd hstatus h
  cases step_accessEffect hi h with
  | command hdesc _ => exact absurd hdesc hcmd
  | statusWrite hdesc => exact absurd hdesc hstatus
  | other hsame =>
    have hbusy : t.busy = s.busy := by simp [State.busy, hsame.seq]
    exact ⟨hbusy, hsame.map_err, hsame.tx_reject, hsame.cmd_err⟩

/-! ### Reset -/

/-- INFO is a constant: 20 rows over 10 columns (R28, R80). -/
theorem infoWord_eq : infoWord = 0x0000140A := by decide

theorem exec_rdInfo (s : State) : exec .rdInfo s = .next { s with obs := .read 0x0000140A :: s.obs } := by
  rw [← infoWord_eq]
  rfl

/-- Settles O53: a reset step answers the reset state but for the inputs and the trace, which are not the block's. -/
theorem resetSetsEveryValue : Obligations.ResetSetsEveryValue := by
  unfold Obligations.ResetSetsEveryValue
  intro s hi
  exact ⟨s.taken.applyReset, step_of hi, rfl, rfl, rfl, rfl, rfl, rfl, rfl, rfl, rfl, rfl, rfl, rfl, rfl, rfl,
    exec_rdInfo _⟩

end Sys2Proof.Machine
end

section
/-! Family 20_memory: the aperture and its byte lanes (R38, R40 to R42), reads (R44), what a step serves (R43, R46), and the
sequencer's progress (R48). -/

namespace Sys2Proof.Machine

/-! ### Byte lanes -/

theorem lane_toNat (v : Word) (k : Nat) : (lane v k).toNat = v.toNat / 2 ^ (8 * k) % 2 ^ 8 := by
  simp [lane, BitVec.extractLsb'_toNat, Nat.shiftRight_eq_div_pow]

theorem ofLanes_toNat (b0 b1 b2 b3 : Byte) :
    (ofLanes b0 b1 b2 b3).toNat = b0.toNat + 2 ^ 8 * b1.toNat + 2 ^ 16 * b2.toNat + 2 ^ 24 * b3.toNat := by
  simp only [ofLanes, append_toNat]
  omega

theorem ofLanes_lane (v : Word) : ofLanes (lane v 0) (lane v 1) (lane v 2) (lane v 3) = v := by
  have hv := v.isLt
  apply BitVec.eq_of_toNat_eq
  simp only [ofLanes_toNat, lane_toNat]
  omega

/-- Lane `k` of a word made of four lanes is the lane that stands `8 * k` bits up in it. -/
theorem lane_ofLanes {b0 b1 b2 b3 b : Byte} {k : Nat}
    (h : (b0.toNat + 2 ^ 8 * b1.toNat + 2 ^ 16 * b2.toNat + 2 ^ 24 * b3.toNat) / 2 ^ (8 * k) % 2 ^ 8 = b.toNat) :
    lane (ofLanes b0 b1 b2 b3) k = b := by
  apply BitVec.eq_of_toNat_eq
  rw [lane_toNat, ofLanes_toNat, h]

/-- Settles O51: lanes and words as numbers in base 256, lane 0 the lowest digit. -/
theorem byteLanesAreLittleEndian : Obligations.ByteLanesAreLittleEndian := by
  unfold Obligations.ByteLanesAreLittleEndian
  refine ⟨fun v k i _ hi => by simp [lane, hi], ofLanes_lane, fun b0 b1 b2 b3 => ?_⟩
  have h0 := b0.isLt
  have h1 := b1.isLt
  have h2 := b2.isLt
  have h3 := b3.isLt
  exact ⟨lane_ofLanes (by omega), lane_ofLanes (by omega), lane_ofLanes (by omega), lane_ofLanes (by omega)⟩

/-! ### The aperture and its descriptors -/

theorem route_base_add (off : Offset) : route (Config.base + off.toNat) = some off := by
  simp [route, off.isLt]

theorem route_outside {addr : Nat} (h : addr < Config.base ∨ Config.base + 64 ≤ addr) : route addr = none :=
  if_neg (by omega)

theorem memRead_base_add (off : Offset) (bytes : Nat) :
    memRead (Config.base + off.toNat) bytes = some (.access (descOf bytes false off) 0) := by
  rw [memRead, route_base_add]
  rfl

theorem memWrite_base_add (off : Offset) (bytes : Nat) (v : Word) :
    memWrite (Config.base + off.toNat) bytes v = some (.access (descOf bytes true off) v) := by
  rw [memWrite, route_base_add]
  rfl

theorem descOf_toNat (bytes : Nat) (write : Bool) (off : Offset) :
    (descOf bytes write off).toNat = (sizeCode bytes).toNat * 2 ^ 7 + write.toNat * 2 ^ 6 + off.toNat := by
  simp only [descOf, append_toNat, BitVec.toNat_ofBool]
  omega

@[simp] theorem descSize_descOf (bytes : Nat) (write : Bool) (off : Offset) :
    descSize (descOf bytes write off) = sizeCode bytes := by
  have hw := write.toNat_lt
  have ho := off.isLt
  apply BitVec.eq_of_toNat_eq
  rw [descSize_toNat, descOf_toNat]
  omega

@[simp] theorem descOffset_descOf (bytes : Nat) (write : Bool) (off : Offset) :
    descOffset (descOf bytes write off) = off := by
  have ho := off.isLt
  apply BitVec.eq_of_toNat_eq
  rw [descOffset_toNat, descOf_toNat]
  omega

/-- The only width with the size code of a register access is 4 bytes (R41, R54). -/
theorem sizeCode_eq_two_iff (bytes : Nat) : sizeCode bytes = 0b10 ↔ bytes = 4 := by
  unfold sizeCode
  split_ifs <;> simp_all

/-- A 4-byte access carries `0b10`, its direction and its offset, written as one number (R54, R62). -/
theorem descOf_four (write : Bool) (off : Offset) :
    descOf 4 write off = BitVec.ofNat 9 ((if write then 0x140 else 0x100) + off.toNat) := by
  have ho := off.isLt
  have hsize : (sizeCode 4).toNat = 2 := rfl
  apply BitVec.eq_of_toNat_eq
  rw [descOf_toNat, hsize, BitVec.toNat_ofNat]
  cases write with
  | false => simp only [Bool.toNat_false, Bool.false_eq_true, if_false]; omega
  | true => simp only [Bool.toNat_true, if_true]; omega

/-- Settles O49: the aperture is the 64 addresses from BASE, and `descOf 4` writes out R54's fields. -/
theorem apertureRoutesItsAddresses : Obligations.ApertureRoutesItsAddresses := by
  unfold Obligations.ApertureRoutesItsAddresses
  refine ⟨Nat.mul_mod_right 64 _, route_base_add, fun addr => route_outside, fun off v => ⟨?_, ?_⟩⟩
  · rw [memRead_base_add, descOf_four]
    rfl
  · rw [memWrite_base_add, descOf_four]
    rfl

/-! ### Accesses that fail the descriptor checks -/

theorem decodeBus_of_size {desc : Desc} (h : descSize desc ≠ 0b10) (data : Word) :
    decodeBus desc data = .error ⟨.size, descOffset desc⟩ :=
  if_pos h

theorem decodeBus_of_misaligned {desc : Desc} (hsize : descSize desc = 0b10) (h : (descOffset desc).toNat % 4 ≠ 0)
    (data : Word) : decodeBus desc data = .error ⟨.alignment, descOffset desc⟩ := by
  have hlow : (descOffset desc).extractLsb' 0 2 ≠ 0 := fun h0 => h (by simpa using congrArg BitVec.toNat h0)
  rw [decodeBus, if_neg (not_not.mpr hsize), if_pos hlow]

/-- The size is checked before the alignment (R54). -/
theorem decodeBus_descOf_error {bytes : Nat} {off : Offset} (h : bytes ≠ 4 ∨ off.toNat % 4 ≠ 0) (write : Bool)
    (data : Word) :
    decodeBus (descOf bytes write off) data = .error ⟨if bytes = 4 then .alignment else .size, off⟩ := by
  by_cases hb : bytes = 4
  · have hsize : descSize (descOf bytes write off) = 0b10 := by rw [descSize_descOf, sizeCode_eq_two_iff, hb]
    have hoff : off.toNat % 4 ≠ 0 := h.resolve_left (not_not.mpr hb)
    rw [if_pos hb, decodeBus_of_misaligned hsize (by rwa [descOffset_descOf]), descOffset_descOf]
  · have hsize : descSize (descOf bytes write off) ≠ 0b10 := by rwa [descSize_descOf, Ne, sizeCode_eq_two_iff]
    rw [if_neg hb, decodeBus_of_size hsize, descOffset_descOf]

theorem stepOn_access_error {s : State} {desc : Desc} {data : Word} {e : BusError}
    (hi : s.nextInput = .access desc data) (hd : decodeBus desc data = .error e) :
    step s = .fault (.busError e) ∧ stepOn s = s.taken.errorResponse e := by
  rw [step_of hi, stepOn_eq_obey, hi]
  exact ⟨serve_access_error hd _, obey_access_error hd _⟩

/-- Settles O50: such an access reaches the block with a descriptor that the decoder refuses. -/
theorem narrowOrMisalignedAccessFaults : Obligations.NarrowOrMisalignedAccessFaults := by
  unfold Obligations.NarrowOrMisalignedAccessFaults
  intro s off bytes v e hmem hi hbad
  obtain ⟨write, data, he⟩ : ∃ write data, e = .access (descOf bytes write off) data := by
    rcases hmem with hr | hw
    · rw [memRead_base_add] at hr
      exact ⟨false, 0, (Option.some.inj hr).symm⟩
    · rw [memWrite_base_add] at hw
      exact ⟨true, v, (Option.some.inj hw).symm⟩
  exact ⟨_, rfl, stepOn_access_error (hi.trans he) (decodeBus_descOf_error hbad write data)⟩

/-! ### What a step serves -/

/-- The descriptor that carries a command word is a write to CMD (R53, R77). -/
theorem decodeBus_commandWrite (word : Word) : decodeBus (desc32 true 0x18) word = .ok (.wrCmd word) := rfl

theorem decode_bus_ok {desc : Desc} {data : Word} {i : Instr} (h : decode (.bus desc data) = .ok i) :
    decodeBus desc data = .ok i := by
  cases hd : decodeBus desc data with
  | error e => simp [decode, hd, Except.mapError] at h
  | ok j => simpa [decode, hd, Except.mapError] using h

theorem decode_cmd_ok {word : Word} {i : Instr} (h : decode (.cmd word) = .ok i) :
    ∃ c, decodeCommand word = .ok c ∧ i = c.instr := by
  cases hd : decodeCommand word with
  | error e => simp [decode, hd, Except.map, Except.mapError] at h
  | ok c => exact ⟨c, rfl, by simpa [decode, hd, Except.map, Except.mapError, eq_comm] using h⟩

theorem serve_inputOf {e : Encoded} {i : Instr} (h : decode e = .ok i) (s : State) : serve (inputOf e) s = exec i s := by
  cases e with
  | bus desc data => exact serve_access_ok (decode_bus_ok h) s
  | cmd word =>
    obtain ⟨c, hc, rfl⟩ := decode_cmd_ok h
    calc serve (inputOf (.cmd word)) s = exec (.wrCmd word) s := serve_access_ok (decodeBus_commandWrite word) s
      _ = executeCommand word s := rfl
      _ = exec c.instr s := executeCommand_ok hc s

/-- Settles O44: a step serves `nextInput` on `taken`. -/
theorem stepRunsTheNextInput : Obligations.StepRunsTheNextInput := by
  unfold Obligations.StepRunsTheNextInput
  intro s
  exact ⟨fun e i he hd => (step_of he).trans (serve_inputOf hd _), step_of, fun h => ⟨step_of h, rfl, rfl, rfl⟩,
    fun e rest h => ⟨nextInput_cons h, taken_cons h⟩, fun h => ⟨nextInput_nil h, taken_nil h⟩⟩

/-! ### Reads -/

/-- The offsets that a legal access selects are the nine of R16. -/
theorem accessAt_of_legal {off : Offset} (halign : off.toNat % 4 = 0) (hle : off.toNat ≤ 0x20) (write : Bool)
    (data : Word) : ∃ i, accessAt off write data = some i := by
  have hnine : ∀ off : Offset, off.toNat % 4 = 0 → off.toNat ≤ 0x20 →
      off ∈ [0x00, 0x04, 0x08, 0x0C, 0x10, 0x14, 0x18, 0x1C, 0x20] := by decide
  have hoff := hnine off halign hle
  simp only [List.mem_cons, List.not_mem_nil, or_false] at hoff
  rcases hoff with rfl | rfl | rfl | rfl | rfl | rfl | rfl | rfl | rfl <;> exact ⟨_, rfl⟩

theorem legalAccess_iff (desc : Desc) : legalAccess desc = true ↔
    descSize desc = 0b10 ∧ (descOffset desc).toNat % 4 = 0 ∧ (descOffset desc).toNat ≤ 0x20 := by
  have hsize : descSize desc = 0b10 ↔ desc.toNat / 2 ^ 7 = 2 := by
    rw [← descSize_toNat, ← BitVec.toNat_inj]
    rfl
  rw [hsize, descOffset_toNat]
  simp [legalAccess, and_assoc]

/-- A legal access passes the descriptor checks (R54, R134). -/
theorem decodeBus_of_legal {desc : Desc} (h : legalAccess desc = true) (data : Word) :
    ∃ i, decodeBus desc data = .ok i := by
  obtain ⟨hsize, halign, hle⟩ := (legalAccess_iff desc).mp h
  obtain ⟨i, hi⟩ := accessAt_of_legal halign hle (descWrite desc) data
  have hlow : (descOffset desc).extractLsb' 0 2 = 0 := BitVec.eq_of_toNat_eq (by simpa using halign)
  exact ⟨i, by simp [decodeBus, hsize, hlow, hi]⟩

/-- The data word beside a read is not looked at (R53). -/
theorem decodeBus_read_data {desc : Desc} (hread : descWrite desc = false) (d1 d2 : Word) :
    decodeBus desc d1 = decodeBus desc d2 := by
  simp [decodeBus, accessAt, hread]

/-- Every read does one thing: it returns a value that does not depend on the trace. -/
theorem exec_read {desc : Desc} {data : Word} {i : Instr} (hread : descWrite desc = false)
    (h : decodeBus desc data = .ok i) (s : State) : ∃ v, AddsToTrace (exec i) s [.read v] s := by
  obtain ⟨-, -, hacc⟩ := decodeBus_ok h
  rw [hread] at hacc
  cases i with
  | rdCtrl => exact ⟨s.ctrlWord, fun _ => rfl⟩
  | rdStatus => exact ⟨s.statusWord, fun _ => rfl⟩
  | rdT0 => exact ⟨s.t0Word, fun _ => rfl⟩
  | rdT1 => exact ⟨s.t1Word, fun _ => rfl⟩
  | rdTrst => exact ⟨s.trstWord, fun _ => rfl⟩
  | rdColor => exact ⟨s.colorWord, fun _ => rfl⟩
  | rdCmd => exact ⟨0, fun _ => rfl⟩
  | rdIndex => exact ⟨s.indexWord, fun _ => rfl⟩
  | rdInfo => exact ⟨infoWord, fun _ => rfl⟩
  | wrCtrl _ | wrStatus _ | wrT0 _ | wrT1 _ | wrTrst _ | wrColor _ | wrCmd _ | wrIndex _ | wrInfo _ | nop | map _ _
  | send => simp [accessAt, ite_eq_iff] at hacc

/-- A step that serves a read returns the value, and changes nothing but the inputs and the trace. -/
theorem step_read {s : State} {desc : Desc} {data : Word} {i : Instr} {v : Word} (hi : s.nextInput = .access desc data)
    (hd : decodeBus desc data = .ok i) (hv : AddsToTrace (exec i) s [.read v] s) :
    step s = .next { s.taken with obs := .read v :: s.obs } := by
  rw [step_of hi, serve_access_ok hd]
  exact exec_with_inputs s.taken.inputs s.taken.turn (hv s.obs)

/-- Settles O15: the second read runs the instruction of the first on a state that differs in the inputs and the trace only. -/
theorem readsHaveNoSideEffect : Obligations.ReadsHaveNoSideEffect := by
  unfold Obligations.ReadsHaveNoSideEffect
  intro s desc d1 d2 hi1 hi2 hlegal hread
  obtain ⟨i, hd1⟩ := decodeBus_of_legal hlegal d1
  have hd2 : decodeBus desc d2 = .ok i := (decodeBus_read_data hread d2 d1).trans hd1
  obtain ⟨v, hv⟩ := exec_read hread hd1 s
  have hfirst := step_read hi1 hd1 hv
  exact ⟨v, _, hfirst, rfl,
    step_read hi2 hd2 fun trace => exec_with_inputs s.taken.inputs s.taken.turn (hv trace)⟩

/-! ### The sequencer's progress -/

@[simp] theorem totalTicks_nil : totalTicks [] = 0 := rfl

@[simp] theorem totalTicks_cons (p : Segment) (rest : List Segment) :
    totalTicks (p :: rest) = p.2 + totalTicks rest := by
  simp [totalTicks]

/-- The ticks still to come are none exactly when no segment is (R33). -/
theorem totalTicks_eq_zero_iff {segs : List Segment} (h : SeqOk segs) : totalTicks segs = 0 ↔ segs = [] := by
  cases segs with
  | nil => simp
  | cons p rest =>
    have hp : 1 ≤ p.2 := (h p List.mem_cons_self).1
    simp only [totalTicks_cons, reduceCtorEq, iff_false]
    omega

theorem tick_seqOk {s : State} (h : SeqOk s.seq) : SeqOk (tick s).seq := by
  rcases tick_cases s with ⟨-, ht⟩ | ⟨lv, d, rest, hs, ht⟩
  · rw [ht]
    exact List.forall_mem_nil _
  · rw [hs] at h
    obtain ⟨⟨hd1, hd2⟩, hrest⟩ := List.forall_mem_cons.mp h
    rw [ht, State.drive_seq]
    split
    · exact hrest
    · exact List.forall_mem_cons.mpr ⟨⟨by omega, by omega⟩, hrest⟩

/-- A tick is one of the ticks a transmission lasts; from an empty SEQ there is none to take off (R100, R101). -/
theorem totalTicks_tick {s : State} (h : SeqOk s.seq) : totalTicks (tick s).seq = totalTicks s.seq - 1 := by
  rcases tick_cases s with ⟨hs, ht⟩ | ⟨lv, d, rest, hs, ht⟩
  · rw [ht, hs]
    rfl
  · have hd : 1 ≤ d := (h (lv, d) (by simp [hs])).1
    rw [ht, hs, State.drive_seq, totalTicks_cons]
    split
    · omega
    · rw [totalTicks_cons]
      omega

@[simp] theorem inputAt_tick (s : State) (k : Nat) : (tick s).inputAt k = s.inputAt k := by
  obtain ⟨lv, segs, h⟩ := tick_frame s
  rw [h]
  rfl

theorem step_of_quietFor {s : State} {n : Nat} (h : s.QuietFor (n + 1)) :
    step s = .next (tick s.taken) ∧ (tick s.taken).QuietFor n := by
  refine ⟨step_of ((inputAt_zero s).symm.trans (h 0 n.succ_pos)), fun k hk => ?_⟩
  rw [inputAt_tick, ← inputAt_succ]
  exact h (k + 1) (Nat.succ_lt_succ hk)

theorem run_succ_of_step {M : Host.Core} {s t : M.State} (m : Nat) (h : M.step s = .next t) :
    M.run (m + 1) s = M.run m t := by
  rw [Host.Core.run, h]

/-- `m` ticks take `m` off the ticks that remain, or all of them. -/
theorem run_of_quietFor (m : Nat) {s : State} (hok : SeqOk s.seq) (hq : s.QuietFor m) :
    ∃ t : State, Host.Core.run core m s = .next t ∧ SeqOk t.seq ∧ totalTicks t.seq = totalTicks s.seq - m := by
  induction m generalizing s with
  | zero => exact ⟨s, rfl, hok, rfl⟩
  | succ m ih =>
    obtain ⟨hstep, hq'⟩ := step_of_quietFor hq
    obtain ⟨t, hrun, htok, htotal⟩ := ih (tick_seqOk (s := s.taken) hok) hq'
    refine ⟨t, (run_succ_of_step (M := core) m hstep).trans hrun, htok, ?_⟩
    rw [htotal, totalTicks_tick (s := s.taken) hok, State.taken_seq, Nat.sub_sub, Nat.add_comm]

/-! ### Runs without end -/

/-- Everything an access can do: the effect of its instruction, or an error response (R111, R115). -/
theorem obey_access_cases (desc : Desc) (data : Word) (s : State) :
    Effect s (obey (.access desc data) s) ∨ ∃ e, obey (.access desc data) s = s.errorResponse e := by
  cases hd : decodeBus desc data with
  | error e => exact .inr ⟨e, obey_access_error hd s⟩
  | ok i =>
    obtain ⟨t, ht, he⟩ := exec_effect i s
    rw [obey_access_ok hd ht]
    exact .inl he

/-- No access touches a transmission in progress (R34, R103). -/
theorem obey_access_seq (desc : Desc) (data : Word) {s : State} (h : s.seq ≠ []) :
    (obey (.access desc data) s).seq = s.seq := by
  rcases obey_access_cases desc data s with he | ⟨e, he⟩
  · exact he.keeps_line.2 h
  · rw [he, State.errorResponse_seq]

theorem Effect.seqOk {s t : State} (he : Effect s t) (h : SeqOk s.seq) : SeqOk t.seq := by
  cases he with
  | setSeq _ => exact transmission_seqOk _
  | nothing | answer _ | setCtrl _ _ | clearErrors _ | setT0 _ _ | setT1 _ _ | setTrst _ | setColor _ | setIndex _ _ _ _
  | raiseMapErr | raiseTxReject _ | raiseCmdErr => exact h

theorem obey_seqOk (e : Input) {s : State} (h : SeqOk s.seq) : SeqOk (obey e s).seq := by
  cases e with
  | tick => exact tick_seqOk h
  | reset => exact List.forall_mem_nil _
  | access desc data =>
    rcases obey_access_cases desc data s with he | ⟨err, he⟩
    · exact he.seqOk h
    · rw [he]
      exact h

theorem runUnder_seqOk (sched : Schedule) (n : Nat) {s : State} (h : SeqOk s.seq) : SeqOk (runUnder sched n s).seq := by
  induction n with
  | zero => exact h
  | succ n ih => exact obey_seqOk _ ih

/-- While a transmission is in progress no input adds to the ticks that remain. -/
theorem totalTicks_obey_le (e : Input) {s : State} (hok : SeqOk s.seq) (h : s.seq ≠ []) :
    totalTicks (obey e s).seq ≤ totalTicks s.seq := by
  cases e with
  | tick => rw [obey_tick, totalTicks_tick hok]; exact Nat.sub_le _ _
  | reset => exact Nat.zero_le _
  | access desc data => rw [obey_access_seq desc data h]

theorem totalTicks_runUnder_le {sched : Schedule} {s : State} (hok : SeqOk s.seq) {n m : Nat} (hnm : n ≤ m)
    (hbusy : ∀ k, n ≤ k → (runUnder sched k s).seq ≠ []) :
    totalTicks (runUnder sched m s).seq ≤ totalTicks (runUnder sched n s).seq := by
  induction m, hnm using Nat.le_induction with
  | base => exact le_rfl
  | succ k hk ih => exact (totalTicks_obey_le _ (runUnder_seqOk sched k hok) (hbusy k hk)).trans ih

/-- Under weak fairness the ticks that remain run out: from a point on, SEQ empties or one more tick comes (R48). -/
theorem exists_seq_nil_of_weaklyFair {sched : Schedule} {s : State} (hok : SeqOk s.seq) (hfair : WeaklyFair sched s)
    (total n : Nat) (h : totalTicks (runUnder sched n s).seq ≤ total) : ∃ m, n ≤ m ∧ (runUnder sched m s).seq = [] := by
  induction total generalizing n with
  | zero => exact ⟨n, le_rfl, (totalTicks_eq_zero_iff (runUnder_seqOk sched n hok)).mp (Nat.le_zero.mp h)⟩
  | succ total ih =>
    by_cases hbusy : ∀ k, n ≤ k → (runUnder sched k s).seq ≠ []
    · obtain ⟨m, hnm, htick⟩ := hfair n hbusy
      have hle := totalTicks_runUnder_le hok hnm hbusy
      have hnext : totalTicks (runUnder sched (m + 1) s).seq ≤ total := by
        rw [runUnder, htick, obey_tick, totalTicks_tick (runUnder_seqOk sched m hok)]
        omega
      obtain ⟨k, hk, hnil⟩ := ih (m + 1) hnext
      exact ⟨k, by omega, hnil⟩
    · push Not at hbusy
      exact hbusy

theorem runUnder_accesses_seq {sched : Schedule} (hacc : ∀ k, ∃ desc data, sched k = .access desc data) {s : State}
    (h : s.seq ≠ []) (n : Nat) : (runUnder sched n s).seq = s.seq := by
  induction n with
  | zero => rfl
  | succ n ih =>
    obtain ⟨desc, data, hn⟩ := hacc n
    rw [runUnder, hn, obey_access_seq desc data (by rwa [ih]), ih]

/-- `r` with the inputs that are still to come after `k` steps from `s`. -/
def State.withInputsAfter (s : State) (k : Nat) (r : State) : State :=
  { r with inputs := s.inputs.drop k, turn := s.turn + (k - s.inputs.length) }

theorem nextInput_withInputsAfter (s : State) (k : Nat) (r : State) :
    (s.withInputsAfter k r).nextInput = s.inputAt k := by
  cases hk : s.inputs[k]? with
  | none =>
    have hdrop : s.inputs.drop k = [] := List.drop_eq_nil_iff.mpr (List.getElem?_eq_none_iff.mp hk)
    rw [nextInput_nil hdrop, State.inputAt, hk]
    rfl
  | some e =>
    obtain ⟨hlt, he⟩ := List.getElem?_eq_some_iff.mp hk
    have hdrop : s.inputs.drop k = e :: s.inputs.drop (k + 1) := he ▸ List.drop_eq_getElem_cons hlt
    rw [nextInput_cons (s := s.withInputsAfter k r) hdrop, State.inputAt, hk]

theorem taken_withInputsAfter (s : State) (k : Nat) (r : State) :
    (s.withInputsAfter k r).taken = s.withInputsAfter (k + 1) r := by
  rcases Nat.lt_or_ge k s.inputs.length with hk | hk
  · have hdrop : (s.withInputsAfter k r).inputs = s.inputs[k] :: s.inputs.drop (k + 1) := List.drop_eq_getElem_cons hk
    have hturn : k + 1 - s.inputs.length = k - s.inputs.length := by omega
    rw [taken_cons hdrop, State.withInputsAfter, State.withInputsAfter, hturn]
    rfl
  · have hdrop : s.inputs.drop k = [] := List.drop_eq_nil_iff.mpr hk
    have hdrop' : s.inputs.drop (k + 1) = [] := List.drop_eq_nil_iff.mpr (by omega)
    have hturn : s.turn + (k + 1 - s.inputs.length) = s.turn + (k - s.inputs.length) + 1 := by omega
    rw [taken_nil (s := s.withInputsAfter k r) hdrop, State.withInputsAfter, State.withInputsAfter, hdrop, hdrop', hturn]

theorem obey_withInputsAfter (e : Input) (s : State) (k : Nat) (r : State) :
    obey e (s.withInputsAfter k r) = s.withInputsAfter k (obey e r) :=
  obey_with_inputs _ _ e r

/-- The machine's own run is the run under the inputs it takes. -/
theorem stepsOn_eq_runUnder (s : State) (n : Nat) : stepsOn n s = s.withInputsAfter n (runUnder s.inputAt n s) := by
  induction n with
  | zero => simp [stepsOn, runUnder, State.withInputsAfter]
  | succ n ih =>
    rw [stepsOn, ih, stepOn_eq_obey, nextInput_withInputsAfter, taken_withInputsAfter, obey_withInputsAfter, runUnder]

/-- Settles O36: a tick takes one off the ticks that remain, which nothing else changes but a reset. -/
theorem transmissionEndsWhenTicksCome : Obligations.TransmissionEndsWhenTicksCome := by
  unfold Obligations.TransmissionEndsWhenTicksCome
  refine ⟨fun s hok hquiet m hm => ?_, fun sched s hok hfair n => exists_seq_nil_of_weaklyFair hok hfair _ n le_rfl,
    fun sched s hacc h n => runUnder_accesses_seq hacc h n, stepsOn_eq_runUnder⟩
  obtain ⟨t, hrun, htok, htotal⟩ := run_of_quietFor m hok (fun k hk => hquiet k (hk.trans_le hm))
  refine ⟨t, hrun, ?_⟩
  rw [← totalTicks_eq_zero_iff htok, htotal]
  unfold totalTicks
  omega

end Sys2Proof.Machine
end

section
/-! Family 30_encoding: command words (R55, R56), access descriptors (R54), both formats (R53), and the host assembler's
pseudo-instructions (R62). -/

namespace Sys2Proof.Machine

/-! ### The fields of a command word -/

@[simp] theorem cmdOp_commandWord (op : BitVec 4) (x y : Nat) : cmdOp (commandWord op x y) = op := by
  have hop := op.isLt
  apply BitVec.eq_of_toNat_eq
  rw [cmdOp_toNat, commandWord_toNat]
  omega

@[simp] theorem cmdRsv0_commandWord (op : BitVec 4) (x y : Nat) : cmdRsv0 (commandWord op x y) = 0 := by
  have hop := op.isLt
  apply BitVec.eq_of_toNat_eq
  rw [cmdRsv0_toNat, commandWord_toNat]
  change _ = 0
  omega

@[simp] theorem cmdRsv1_commandWord (op : BitVec 4) (x y : Nat) : cmdRsv1 (commandWord op x y) = 0 := by
  have hop := op.isLt
  apply BitVec.eq_of_toNat_eq
  rw [cmdRsv1_toNat, commandWord_toNat]
  change _ = 0
  omega

theorem cmdX_commandWord_toNat (op : BitVec 4) {x : Nat} (hx : x ≤ 255) (y : Nat) :
    (cmdX (commandWord op x y)).toNat = x := by
  have hop := op.isLt
  rw [cmdX_toNat, commandWord_toNat]
  omega

theorem cmdY_commandWord_toNat (op : BitVec 4) (x : Nat) {y : Nat} (hy : y ≤ 255) :
    (cmdY (commandWord op x y)).toNat = y := by
  have hop := op.isLt
  rw [cmdY_toNat, commandWord_toNat]
  omega

/-- A word whose reserved fields are 0 is made of its opcode and its operands (R55). -/
theorem eq_commandWord_of_reserved_zero {w : Word} (h0 : cmdRsv0 w = 0) (h1 : cmdRsv1 w = 0) :
    w = commandWord (cmdOp w) (cmdX w).toNat (cmdY w).toNat := by
  have hw := w.isLt
  have hrsv0 : 0 = w.toNat / 2 ^ 4 % 2 ^ 4 := by rw [← cmdRsv0_toNat, h0]; rfl
  have hrsv1 : 0 = w.toNat / 2 ^ 24 % 2 ^ 8 := by rw [← cmdRsv1_toNat, h1]; rfl
  apply BitVec.eq_of_toNat_eq
  rw [commandWord_toNat, cmdOp_toNat, cmdX_toNat, cmdY_toNat]
  omega

/-! ### Decoding a command word -/

theorem decodeCommand_map_iff_fields {w : Word} {x y : Nat} : decodeCommand w = .ok (.map x y) ↔
    (x = (cmdX w).toNat ∧ y = (cmdY w).toNat) ∧ cmdOp w = 1 ∧ cmdRsv0 w = 0 ∧ cmdRsv1 w = 0 := by
  constructor
  · intro h
    rcases decodeCommand_ok_cases h with ⟨hc, -⟩ | ⟨hc, hfields⟩ | ⟨hc, -⟩
    · cases hc
    · exact ⟨Command.map.inj hc, hfields⟩
    · cases hc
  · rintro ⟨⟨rfl, rfl⟩, hop, h0, h1⟩
    simp [decodeCommand, hop, h0, h1]

theorem wellFormed_map_iff (x y : Nat) : (Instr.map x y).wellFormed = true ↔ x ≤ 255 ∧ y ≤ 255 := by
  simp [Instr.wellFormed]

/-- The commands that decode are the well-formed ones, each from the word it encodes to (R55, R56). -/
theorem decodeCommand_ok_iff {w : Word} {c : Command} :
    decodeCommand w = .ok c ↔ c.instr.wellFormed = true ∧ encode c.instr = .cmd w := by
  constructor
  · intro h
    rcases decodeCommand_ok_cases h with ⟨rfl, hw⟩ | ⟨rfl, hop, h0, h1⟩ | ⟨rfl, hw⟩
    · exact ⟨rfl, congrArg Encoded.cmd (BitVec.eq_of_toNat_eq hw.symm)⟩
    · have hword := eq_commandWord_of_reserved_zero h0 h1
      have hx : (cmdX w).toNat ≤ 255 := Nat.le_of_lt_succ (cmdX w).isLt
      have hy : (cmdY w).toNat ≤ 255 := Nat.le_of_lt_succ (cmdY w).isLt
      rw [hop] at hword
      exact ⟨(wellFormed_map_iff _ _).mpr ⟨hx, hy⟩, congrArg Encoded.cmd hword.symm⟩
    · exact ⟨rfl, congrArg Encoded.cmd (BitVec.eq_of_toNat_eq hw.symm)⟩
  · rintro ⟨hwf, henc⟩
    cases c with
    | nop => cases henc; rfl
    | map x y =>
      cases henc
      obtain ⟨hx, hy⟩ := (wellFormed_map_iff x y).mp hwf
      simp [decodeCommand_map_iff_fields, cmdX_commandWord_toNat, cmdY_commandWord_toNat, hx, hy]
    | send => cases henc; rfl

theorem decodeCommand_ok_iff_of_encode {w v : Word} {c : Command} (hwf : c.instr.wellFormed = true)
    (henc : encode c.instr = .cmd v) : decodeCommand w = .ok c ↔ w = v := by
  rw [decodeCommand_ok_iff, henc, Encoded.cmd.injEq, and_iff_right hwf, eq_comm]

/-- The mask of NOP and SEND keeps every bit (R56). -/
theorem and_fullMask (w : Word) : w &&& 0xFFFFFFFF = w := BitVec.and_allOnes

/-- MAP's mask drops the operands and keeps the rest (R56). -/
theorem and_mapMask_toNat (w : Word) : (w &&& 0xFF0000FF).toNat = w.toNat / 2 ^ 24 * 2 ^ 24 + w.toNat % 2 ^ 8 := by
  have hw := w.isLt
  have hmask : (0xFF0000FF : Word) = BitVec.allOnes 8 ++ 0#16 ++ BitVec.allOnes 8 := by decide
  have hsplit : w = w.extractLsb' 24 8 ++ w.extractLsb' 8 16 ++ w.extractLsb' 0 8 := by
    apply BitVec.eq_of_toNat_eq
    simp only [append_toNat, BitVec.extractLsb'_toNat, Nat.shiftRight_eq_div_pow]
    omega
  have hand : w &&& 0xFF0000FF = w.extractLsb' 24 8 ++ 0#16 ++ w.extractLsb' 0 8 := by
    rw [hmask]
    conv_lhs => rw [hsplit]
    rw [BitVec.and_append, BitVec.and_append, BitVec.and_allOnes, BitVec.and_allOnes, BitVec.and_zero]
  rw [hand]
  simp only [append_toNat, BitVec.extractLsb'_toNat, Nat.shiftRight_eq_div_pow, BitVec.toNat_ofNat]
  omega

theorem and_mapMask_eq_one_iff (w : Word) :
    w &&& 0xFF0000FF = 0x00000001 ↔ cmdOp w = 1 ∧ cmdRsv0 w = 0 ∧ cmdRsv1 w = 0 := by
  have hw := w.isLt
  rw [← BitVec.toNat_inj, ← BitVec.toNat_inj, ← BitVec.toNat_inj, ← BitVec.toNat_inj, and_mapMask_toNat, cmdOp_toNat,
    cmdRsv0_toNat, cmdRsv1_toNat]
  change _ = 1 ↔ _ = 1 ∧ _ = 0 ∧ _ = 0
  omega

theorem exists_decodeCommand_eq_map_iff (w : Word) :
    (∃ x y, decodeCommand w = .ok (.map x y)) ↔ w &&& 0xFF0000FF = 0x00000001 := by
  rw [and_mapMask_eq_one_iff]
  simp [decodeCommand_map_iff_fields]

/-- A word decodes to a command exactly when it is no error. -/
theorem exists_decodeCommand_eq_error_iff (w : Word) : (∃ e, decodeCommand w = .error e) ↔
    ¬ decodeCommand w = .ok .nop ∧ ¬ (∃ x y, decodeCommand w = .ok (.map x y)) ∧ ¬ decodeCommand w = .ok .send := by
  cases decodeCommand w with
  | error e => simp
  | ok c => cases c <;> simp

/-- Settles O19: each command's words are those that match its pair, and an error is what is none of the three. -/
theorem commandWordsMatchTheirMasks : Obligations.CommandWordsMatchTheirMasks := by
  unfold Obligations.CommandWordsMatchTheirMasks
  intro d
  have hnop : decodeCommand d = .ok .nop ↔ d = 0x00000000 := decodeCommand_ok_iff_of_encode rfl rfl
  have hsend : decodeCommand d = .ok .send ↔ d = 0x00000002 := decodeCommand_ok_iff_of_encode rfl rfl
  rw [and_fullMask, exists_decodeCommand_eq_error_iff, hnop, exists_decodeCommand_eq_map_iff, hsend]
  exact ⟨.rfl, .rfl, fun x y h => (decodeCommand_map_iff_fields.mp h).1, .rfl, .rfl⟩

/-! ### Decoding an access -/

/-- The nine offsets where a register stands (R16). -/
def definedOffsets : List Offset := [0x00, 0x04, 0x08, 0x0C, 0x10, 0x14, 0x18, 0x1C, 0x20]

theorem mem_definedOffsets_of_accessAt {off : Offset} {write : Bool} {data : Word} {i : Instr}
    (h : accessAt off write data = some i) : off ∈ definedOffsets := by
  by_contra hn
  simp only [definedOffsets, List.mem_cons, List.not_mem_nil, or_false, not_or] at hn
  simp only [accessAt, hn, if_false, reduceCtorEq] at h

theorem toNat_le_of_mem_definedOffsets : ∀ off ∈ definedOffsets, off.toNat ≤ 0x20 := by decide

/-- The access at an offset encodes to that offset; a read's data word is lost (R54). -/
theorem encode_of_accessAt {off : Offset} {write : Bool} {data : Word} {i : Instr}
    (h : accessAt off write data = some i) : encode i = .bus (desc32 write off) (if write then data else 0) := by
  have hoff := mem_definedOffsets_of_accessAt h
  simp only [definedOffsets, List.mem_cons, List.not_mem_nil, or_false] at hoff
  rcases hoff with rfl | rfl | rfl | rfl | rfl | rfl | rfl | rfl | rfl
  all_goals cases write <;> obtain rfl := Option.some.inj h <;> rfl

/-- What a descriptor decodes to encodes to that descriptor (R54). -/
theorem encode_of_decodeBus {desc : Desc} {data : Word} {i : Instr} (h : decodeBus desc data = .ok i) :
    encode i = .bus desc (if desc.getLsbD 6 then data else 0) := by
  obtain ⟨hsize, -, hacc⟩ := decodeBus_ok h
  rw [encode_of_accessAt hacc, ← eq_desc32_of_descSize hsize]
  rfl

/-- A bound on operands is asked of MAP alone, and no access is a MAP (R62). -/
theorem wellFormed_of_decodeBus {desc : Desc} {data : Word} {i : Instr} (h : decodeBus desc data = .ok i) :
    i.wellFormed = true := by
  cases i with
  | map x y => exact absurd h (decodeBus_ne_command desc data (.map x y))
  | _ => rfl

/-- The offset is checked last (R54). -/
theorem decodeBus_of_offset {desc : Desc} (hsize : descSize desc = 0b10) (halign : (descOffset desc).toNat % 4 = 0)
    (h : 0x20 < (descOffset desc).toNat) (data : Word) : decodeBus desc data = .error ⟨.offset, descOffset desc⟩ := by
  have hlow : (descOffset desc).extractLsb' 0 2 = 0 := BitVec.eq_of_toNat_eq (by simpa using halign)
  have hnone : accessAt (descOffset desc) (descWrite desc) data = none :=
    Option.eq_none_iff_forall_ne_some.mpr fun i hi =>
      absurd (toNat_le_of_mem_definedOffsets _ (mem_definedOffsets_of_accessAt hi)) (Nat.not_le.mpr h)
  simp [decodeBus, hsize, hlow, hnone]

theorem descSize_eq_two_iff (desc : Desc) : descSize desc = 0b10 ↔ desc.toNat / 128 = 2 := by
  rw [← BitVec.toNat_inj, descSize_toNat]
  rfl

/-- Settles O42: one lemma for each check, and a descriptor that passes them all is the one its access encodes to. -/
theorem descriptorChecksInOrder : Obligations.DescriptorChecksInOrder := by
  unfold Obligations.DescriptorChecksInOrder
  intro desc data
  have hoff : (descOffset desc).toNat = desc.toNat % 64 := descOffset_toNat desc
  rw [ne_eq, ← descSize_eq_two_iff, ← hoff]
  refine ⟨fun hsize => decodeBus_of_size hsize data,
    fun hsize halign => decodeBus_of_misaligned hsize (by omega) data,
    fun hsize halign h => decodeBus_of_offset hsize (by omega) h data,
    fun hsize halign hle => ?_⟩
  obtain ⟨i, hi⟩ := decodeBus_of_legal ((legalAccess_iff desc).mpr ⟨hsize, by omega, hle⟩) data
  exact ⟨i, hi, encode_of_decodeBus hi⟩

/-! ### Both formats -/

theorem decode_cmd_of_ok {word : Word} {c : Command} (h : decodeCommand word = .ok c) :
    decode (.cmd word) = .ok c.instr := by
  simp [decode, h, Except.map, Except.mapError]

/-- A well-formed command decodes from its word. -/
theorem decode_encode_command {c : Command} (hwf : c.instr.wellFormed = true) :
    decode (encode c.instr) = .ok c.instr := by
  obtain ⟨w, henc⟩ : ∃ w, encode c.instr = .cmd w := by cases c <;> exact ⟨_, rfl⟩
  rw [henc]
  exact decode_cmd_of_ok (decodeCommand_ok_iff.mpr ⟨hwf, henc⟩)

/-- Settles O47: an access decodes by evaluation of its descriptor, a command by the fields of its word. -/
theorem decodeInvertsEncode : Obligations.DecodeInvertsEncode := by
  unfold Obligations.DecodeInvertsEncode
  intro i hwf
  cases i with
  | nop => exact decode_encode_command (c := .nop) hwf
  | map x y => exact decode_encode_command (c := .map x y) hwf
  | send => exact decode_encode_command (c := .send) hwf
  | rdCtrl | wrCtrl _ | rdStatus | wrStatus _ | rdT0 | wrT0 _ | rdT1 | wrT1 _ | rdTrst | wrTrst _ | rdColor | wrColor _
  | rdCmd | wrCmd _ | rdIndex | wrIndex _ | rdInfo | wrInfo _ => rfl

/-- Settles O48: a command by `decodeCommand_ok_iff`, an access by the descriptor its offset and direction make. -/
theorem encodeInvertsDecode : Obligations.EncodeInvertsDecode := by
  unfold Obligations.EncodeInvertsDecode
  intro e i h
  cases e with
  | bus desc data =>
    have hd := decode_bus_ok h
    refine ⟨wellFormed_of_decodeBus hd, by simp, ?_⟩
    rintro _ _ ⟨⟩
    exact encode_of_decodeBus hd
  | cmd word =>
    obtain ⟨c, hc, rfl⟩ := decode_cmd_ok h
    obtain ⟨hwf, henc⟩ := decodeCommand_ok_iff.mp hc
    refine ⟨hwf, ?_, by simp⟩
    rintro _ ⟨⟩
    exact henc

/-- Settles O46: each word is the encoding of its instruction. -/
theorem sampleWordsDecode : Obligations.SampleWordsDecode := by
  unfold Obligations.SampleWordsDecode
  decide

/-! ### The pseudo-instructions -/

theorem expand_of_accepted {p : Pseudo} (h : p.accepted = true) : p.expand = some p.accesses := if_pos h

theorem expand_eq_none_iff (p : Pseudo) : p.expand = none ↔ p.accepted = false := by
  simp [Pseudo.expand]

/-- A field shifted up stands above a value that fits below it, so `|` adds them. -/
theorem shiftLeft_or_toNat {a k : Nat} {v : Word} (hv : v.toNat < 2 ^ k) (ha : a * 2 ^ k < 2 ^ 32) :
    (BitVec.ofNat 32 a <<< k ||| v).toNat = a * 2 ^ k + v.toNat := by
  have hshift : (BitVec.ofNat 32 a <<< k).toNat = 2 ^ k * a := by
    rw [BitVec.toNat_shiftLeft, BitVec.toNat_ofNat, Nat.shiftLeft_eq, Nat.mod_mul_mod, Nat.mod_eq_of_lt ha, Nat.mul_comm]
  rw [BitVec.toNat_or, hshift, ← Nat.two_pow_add_eq_or_of_lt hv, Nat.mul_comm]

theorem ofNat_toNat_of_le {n : Nat} (h : n ≤ 65535) : (BitVec.ofNat 32 n).toNat = n :=
  Nat.mod_eq_of_lt (by omega)

theorem mapWord_eq_commandWord {x y : Nat} (hx : x ≤ 255) (hy : y ≤ 255) : mapWord x y = commandWord 1 x y := by
  have hone : (1 : Word).toNat = 1 := rfl
  have hop : (1 : BitVec 4).toNat = 1 := rfl
  have hlow : (BitVec.ofNat 32 x <<< 8 ||| 1).toNat = x * 2 ^ 8 + 1 := shiftLeft_or_toNat (by decide) (by omega)
  apply BitVec.eq_of_toNat_eq
  rw [mapWord, BitVec.or_assoc, shiftLeft_or_toNat (by omega) (by omega), hlow, commandWord_toNat, hop]
  omega

/-- The word that the assembler makes of accepted operands runs MAP (R62, R77). -/
theorem exec_wrCmd_mapWord {x y : Nat} (hx : x ≤ 255) (hy : y ≤ 255) (s : State) :
    exec (.wrCmd (mapWord x y)) s = exec (.map x y) s := by
  have hdec : decodeCommand (mapWord x y) = .ok (.map x y) :=
    (decodeCommand_ok_iff_of_encode (c := .map x y) ((wellFormed_map_iff x y).mpr ⟨hx, hy⟩) rfl).mpr
      (mapWord_eq_commandWord hx hy)
  exact executeCommand_ok hdec s

theorem timingWord_toNat {h l : Nat} (hh : h ≤ 65535) (hl : l ≤ 65535) : (timingWord h l).toNat = l * 2 ^ 16 + h := by
  have hlow := ofNat_toNat_of_le hh
  rw [timingWord, shiftLeft_or_toNat (by omega) (by omega), hlow]

theorem lowHalf_toNat (d : Word) : (lowHalf d).toNat = d.toNat % 2 ^ 16 := by
  simp [lowHalf, BitVec.extractLsb'_toNat]

theorem highHalf_toNat (d : Word) : (highHalf d).toNat = d.toNat / 2 ^ 16 % 2 ^ 16 := by
  simp [highHalf, BitVec.extractLsb'_toNat, Nat.shiftRight_eq_div_pow]

theorem halves_timingWord {h l : Nat} (hh : h ≤ 65535) (hl : l ≤ 65535) :
    (lowHalf (timingWord h l)).toNat = h ∧ (highHalf (timingWord h l)).toNat = l := by
  rw [lowHalf_toNat, highHalf_toNat, timingWord_toNat hh hl]
  omega

theorem lowHalf_ofNat_toNat {r : Nat} (hr : r ≤ 65535) : (lowHalf (BitVec.ofNat 32 r)).toNat = r := by
  rw [lowHalf_toNat, ofNat_toNat_of_le hr]
  omega

theorem colorTuple_toNat {r g b w : Nat} (hr : r ≤ 255) (hg : g ≤ 255) (hb : b ≤ 255) (hw : w ≤ 255) :
    (colorTuple r g b w).toNat = w * 2 ^ 24 + (b * 2 ^ 16 + (g * 2 ^ 8 + r)) := by
  have hred : (BitVec.ofNat 32 r).toNat = r := ofNat_toNat_of_le (by omega)
  have hgreen : (BitVec.ofNat 32 g <<< 8 ||| BitVec.ofNat 32 r).toNat = g * 2 ^ 8 + r := by
    rw [shiftLeft_or_toNat (by omega) (by omega), hred]
  have hblue : (BitVec.ofNat 32 b <<< 16 ||| (BitVec.ofNat 32 g <<< 8 ||| BitVec.ofNat 32 r)).toNat =
      b * 2 ^ 16 + (g * 2 ^ 8 + r) := by
    rw [shiftLeft_or_toNat (by omega) (by omega), hgreen]
  rw [colorTuple, BitVec.or_assoc, BitVec.or_assoc, shiftLeft_or_toNat (by omega) (by omega), hblue]

/-- The channels are the byte lanes of the tuple (R25, R40). -/
theorem channels_colorTuple {r g b w : Nat} (hr : r ≤ 255) (hg : g ≤ 255) (hb : b ≤ 255) (hw : w ≤ 255) :
    (red (colorTuple r g b w)).toNat = r ∧ (green (colorTuple r g b w)).toNat = g ∧
      (blue (colorTuple r g b w)).toNat = b ∧ (white (colorTuple r g b w)).toNat = w := by
  have hlane (k : Nat) := lane_toNat (colorTuple r g b w) k
  rw [colorTuple_toNat hr hg hb hw] at hlane
  refine ⟨(hlane 0).trans ?_, (hlane 1).trans ?_, (hlane 2).trans ?_, (hlane 3).trans ?_⟩ <;> omega

/-- CLRERR's word has a 1 at each error bit (R62, R67). -/
theorem clearErrors_all (s : State) :
    s.clearErrors 0x0000000E = { s with map_err := false, tx_reject := false, cmd_err := false } := by
  simp [State.clearErrors]

/-- BUSY is the bit that WAITIDLE's branch looks at (R19, R62). -/
theorem waitAgain_statusWord (s : State) : waitAgain s.statusWord = s.busy :=
  statusWord_getLsbD s 0

/-- Settles O52: the operands come back out of the words that the assembler makes of them, and operands that it does not
accept have no expansion. -/
theorem pseudoInstructionsExpand : Obligations.PseudoInstructionsExpand := by
  unfold Obligations.PseudoInstructionsExpand
  simp only [expand_eq_none_iff]
  intro s
  refine ⟨rfl, rfl, ⟨rfl, waitAgain_statusWord s⟩, ⟨_, rfl, congrArg Host.Outcome.next (clearErrors_all s)⟩,
    fun x y hx hy => ⟨_, expand_of_accepted (by simp [Pseudo.accepted, hx, hy]), exec_wrCmd_mapWord hx hy s⟩,
    fun h l hh hl => ?_, fun r g b w hr hg hb hw => ?_, ?_, ?_, ?_, ?_, ?_⟩
  · have hhalves := halves_timingWord hh hl
    simp only [expand_of_accepted, Pseudo.accepted, hh, hl, decide_true, Bool.and_self]
    exact ⟨⟨_, _, rfl, rfl, hhalves⟩, ⟨_, _, rfl, rfl, hhalves⟩, _, _, rfl, rfl, lowHalf_ofNat_toNat hh⟩
  · obtain ⟨hred, hgreen, hblue, hwhite⟩ := channels_colorTuple hr hg hb hw
    obtain ⟨hred0, hgreen0, hblue0, hwhite0⟩ := channels_colorTuple hr hg hb (Nat.zero_le 255)
    simp only [expand_of_accepted, Pseudo.accepted, hr, hg, hb, hw, decide_true, Bool.and_self]
    exact ⟨⟨_, _, rfl, rfl, hred, hgreen, hblue, hwhite, rfl⟩, _, _, rfl, rfl, hred0, hgreen0, hblue0, hwhite0, rfl⟩
  all_goals
    simp only [Pseudo.accepted, Bool.and_eq_false_iff, decide_eq_false_iff_not, Nat.not_le]
    omega

end Sys2Proof.Machine
end

section
/-! Family 40_register_access: what each register reads, and what a write to it changes (R64 to R81); and the table word that is
placed for the next step (R63). -/

namespace Sys2Proof.Machine

/-! ### Register words as the rules write them -/

/-- Fields side by side are the upper one shifted over the lower one, at any width. -/
theorem setWidth_append_eq_or {m n : Nat} (w : Nat) (a : BitVec m) (b : BitVec n) :
    (a ++ b).setWidth w = a.setWidth w <<< n ||| b.setWidth w := by
  apply BitVec.eq_of_getLsbD_eq
  intro i hi
  by_cases hn : i < n
  · simp [BitVec.getLsbD_append, hi, hn]
  · simp [BitVec.getLsbD_append, hi, hn, BitVec.getLsbD_of_ge b i (Nat.le_of_not_lt hn)]

/-- Two half words side by side are `(zext_32(hi) << 16) | zext_32(lo)` (R68, R70). -/
theorem halves_append_eq_or (hi lo : BitVec 16) :
    (hi ++ lo : Word) = hi.setWidth 32 <<< 16 ||| lo.setWidth 32 := by
  rw [← setWidth_append_eq_or, BitVec.setWidth_eq]

/-- COLOR as R74's pseudocode puts it together. -/
theorem colorWord_eq_or (s : State) :
    s.colorWord = ((white s.color).setWidth 32 <<< 24) ||| ((blue s.color).setWidth 32 <<< 16) |||
      ((green s.color).setWidth 32 <<< 8) ||| (red s.color).setWidth 32 := by
  have hwhole : s.colorWord = BitVec.setWidth 32 (white s.color ++ blue s.color ++ green s.color ++ red s.color) :=
    (BitVec.setWidth_eq _).symm
  simp only [hwhole, setWidth_append_eq_or, BitVec.shiftLeft_or_distrib, ← BitVec.shiftLeft_add]

theorem trstWord_toNat (s : State) : s.trstWord.toNat = s.treset.toNat :=
  BitVec.toNat_setWidth_of_le (by decide)

theorem indexWord_toNat (s : State) : s.indexWord.toNat = s.index.toNat :=
  BitVec.toNat_setWidth_of_le (by decide)

/-! ### A register read after a write -/

/-- CTRL keeps the low two bits of what is written to it (R65). -/
theorem ctrlWord_setCtrl (d : Word) (s : State) :
    (s.setCtrl (d.getLsbD 0) (d.getLsbD 1)).ctrlWord = (d.setWidth 2).setWidth 32 := by
  apply BitVec.eq_of_getLsbD_eq
  intro i _
  rw [ctrlWord_getLsbD]
  rcases i with _ | _ | i
  · simp
  · simp
  · simp

/-- The halves of a data word are the whole of it, so T1 reads what was written to it (R23). -/
theorem t1Word_setT1 (d : Word) (s : State) : (s.setT1 (lowHalf d) (highHalf d)).t1Word = d :=
  BitVec.extractLsb'_append_extractLsb'

/-- COLOR's channels are the byte lanes of what was written to it (R25). -/
theorem colorWord_setColor (d : Word) (s : State) : (s.setColor d).colorWord = d :=
  ofLanes_lane d

/-- A write to STATUS clears the bits of the word that it has a 1 at, BUSY apart (R67). -/
theorem statusWord_clearErrors (d : Word) (s : State) :
    (s.clearErrors d).statusWord = s.statusWord &&& ~~~(d &&& 0x0000000E) := by
  have hbusy : (s.clearErrors d).busy = s.busy := rfl
  apply BitVec.eq_of_getLsbD_eq
  intro i _
  rw [BitVec.getLsbD_and, statusWord_getLsbD, statusWord_getLsbD]
  rcases i with _ | _ | _ | _ | i
  · simp [hbusy]
  · simp
  · simp
  · simp
  · simp

/-! ### Reads of a known value, and the commands by their condition -/

/-- A read answers the value its register word is known to have. -/
theorem next_answer_of_eq {v w : Word} (h : v = w) (s : State) :
    (.next (s.answer v) : Result) = .next { s with obs := .read w :: s.obs } := by
  rw [h]
  rfl

theorem exec_map_of_lt {x y : Nat} (hx : x < Config.W) (hy : y < Config.H) (s : State) :
    exec (.map x y) s = .next (s.setIndex (BitVec.ofNat 16 (mapIndex Config.H x y s.ctrl_flip))) :=
  if_neg (by omega)

theorem exec_map_of_outside {x y : Nat} (h : Config.W ≤ x ∨ Config.H ≤ y) (s : State) :
    exec (.map x y) s = .next s.raiseMapErr :=
  if_pos h

theorem exec_send_of_idle {s : State} (h : s.seq = []) :
    exec .send s = .next (s.setSeq s.snapshot.transmission) :=
  if_neg (by simp [h])

theorem decode_cmd_error {word : Word} {e : DecodeError} (h : decode (.cmd word) = .error e) :
    ∃ cause, decodeCommand word = .error cause ∧ e = .cmd cause := by
  cases hd : decodeCommand word with
  | error cause => exact ⟨cause, rfl, by simpa [decode, hd, Except.map, Except.mapError, eq_comm] using h⟩
  | ok c => simp [decode, hd, Except.map, Except.mapError] at h

/-- `b && !d` as the rule's "cleared only where d has a 1" (R67). -/
theorem clearErrors_eq_ite (d : Word) (s : State) :
    s.clearErrors d = { s with
      map_err := if d.getLsbD 1 then false else s.map_err
      tx_reject := if d.getLsbD 2 then false else s.tx_reject
      cmd_err := if d.getLsbD 3 then false else s.cmd_err } := by
  have hclear (b c : Bool) : (b && !c) = if c then false else b := by cases c <;> simp
  simp only [State.clearErrors, hclear]

/-! ### CTRL -/

/-- Settles O1: CTRL bit by bit, and read after a write of ones. -/
theorem rdCtrlReturnsFlipAndVariant : Obligations.RdCtrlReturnsFlipAndVariant := by
  unfold Obligations.RdCtrlReturnsFlipAndVariant
  intro s data
  refine ⟨rfl, ⟨s.ctrlWord, rfl, ctrlWord_getLsbD s⟩, _, rfl, ?_⟩
  exact next_answer_of_eq (ctrlWord_setCtrl 0xFFFFFFFF s) _

/-- Settles O2: MAP and SEND after the write run on its state, and read the new bits there. -/
theorem wrCtrlSetsFlipAndVariant : Obligations.WrCtrlSetsFlipAndVariant := by
  unfold Obligations.WrCtrlSetsFlipAndVariant
  intro s d
  refine ⟨rfl, s.setCtrl (d.getLsbD 0) (d.getLsbD 1), rfl, rfl, fun x y hx hy => ?_, fun hidle => ?_, ?_⟩
  · exact ⟨_, exec_map_of_lt hx hy _, ofNat_mapIndex_toNat _ hx hy⟩
  · exact ⟨_, _, exec_send_of_idle hidle, rfl, rfl, rfl⟩
  · rintro rfl
    exact ⟨rfl, rfl⟩

/-! ### STATUS -/

theorem statusWord_of_busy_only {s : State} (hbusy : s.seq ≠ []) (hmap : s.map_err = false) (htx : s.tx_reject = false)
    (hcmd : s.cmd_err = false) : s.statusWord = 0x00000001 := by
  rw [State.statusWord, (busy_iff s).mpr hbusy, hmap, htx, hcmd]
  decide

/-- Settles O3: STATUS bit by bit; after an accepted SEND only BUSY is 1, as SEQ holds the transmission. -/
theorem rdStatusReturnsBusyAndErrors : Obligations.RdStatusReturnsBusyAndErrors := by
  unfold Obligations.RdStatusReturnsBusyAndErrors
  intro s data
  refine ⟨rfl, ⟨s.statusWord, rfl, ?_, statusWord_getLsbD s 1, statusWord_getLsbD s 2, statusWord_getLsbD s 3, ?_⟩, ?_⟩
  · rw [statusWord_getLsbD]
    exact busy_iff s
  · intro i hi
    rw [statusWord_getLsbD, if_neg (by omega), if_neg (by omega), if_neg (by omega), if_neg (by omega)]
  · intro hidle hmap htx hcmd hload
    have hword : (s.setSeq s.snapshot.transmission).statusWord = 0x00000001 :=
      statusWord_of_busy_only hload hmap htx hcmd
    exact ⟨_, exec_send_of_idle hidle, next_answer_of_eq hword _⟩

/-- Settles O4: a bit is `b && !d` after the write, and STATUS reads as the old word without the bits written 1. -/
theorem wrStatusClearsWhereOne : Obligations.WrStatusClearsWhereOne := by
  unfold Obligations.WrStatusClearsWhereOne
  intro s d
  refine ⟨rfl, ⟨s.clearErrors d, rfl, clearErrors_eq_ite d s, Iff.rfl⟩,
    fun hall => ⟨s.clearErrors 0x00000004, rfl, ?_⟩⟩
  have hword : (s.clearErrors 0x00000004).statusWord = 0x0000000A := by
    rw [statusWord_clearErrors, hall]
    decide
  exact next_answer_of_eq hword _

/-! ### T0, T1 and TRST -/

/-- Settles O5: each timing register is its Low half over its High half, and T1 reads what was written. -/
theorem rdTimingsReturnLowOverHigh : Obligations.RdTimingsReturnLowOverHigh := by
  unfold Obligations.RdTimingsReturnLowOverHigh
  intro s data
  refine ⟨rfl, rfl, ?_, ?_, rfl, _, rfl, ?_⟩
  · exact next_answer_of_eq (halves_append_eq_or s.t0l s.t0h) s
  · exact next_answer_of_eq (halves_append_eq_or s.t1l s.t1h) s
  · exact next_answer_of_eq (t1Word_setT1 0x00040008 s) _

/-- Settles O6: the writes store the halves as they are, and a bit's pulse is made of its own pair of counts only. -/
theorem wrTimingsSetHighAndLow : Obligations.WrTimingsSetHighAndLow := by
  unfold Obligations.WrTimingsSetHighAndLow
  refine ⟨fun s d => ⟨rfl, rfl, rfl, rfl, rfl, rfl⟩, fun cfg hhigh hlow => ?_⟩
  simp [SendCfg.bitPulse, hhigh, hlow]

/-- Settles O7: TRST reads as TRESET, a 16-bit number. -/
theorem rdTrstReturnsReset : Obligations.RdTrstReturnsReset := by
  unfold Obligations.RdTrstReturnsReset
  intro s data
  refine ⟨rfl, ⟨s.trstWord, rfl, trstWord_toNat s, fun i hi => ?_⟩, rfl⟩
  simp [State.trstWord, BitVec.getLsbD_of_ge s.treset i hi]

/-- A reset pulse of 0 ticks is dropped, and the bits' segments are left (R98). -/
theorem transmission_of_trst_zero {cfg : SendCfg} (h : cfg.trst = 0) :
    cfg.transmission = nonzero ((cfg.bits.map cfg.bitPulse).flatMap Pulse.segments) := by
  simp [SendCfg.transmission, SendCfg.pulses, Pulse.segments, nonzero, h]

/-- Settles O8: SEND takes TRESET from the state after the write. -/
theorem wrTrstSetsReset : Obligations.WrTrstSetsReset := by
  unfold Obligations.WrTrstSetsReset
  intro s d
  refine ⟨rfl, ⟨s.setTrst (d.extractLsb' 0 16), rfl, rfl, fun hidle hzero => ?_⟩, rfl⟩
  exact ⟨_, exec_send_of_idle hidle, transmission_of_trst_zero hzero⟩

/-! ### COLOR -/

/-- Settles O9: COLOR is its four channels, and reads as the tuple that the assembler makes of SETCOLOR's operands. -/
theorem rdColorReturnsChannels : Obligations.RdColorReturnsChannels := by
  unfold Obligations.RdColorReturnsChannels
  intro s data
  refine ⟨rfl, ⟨s.colorWord, rfl, colorWord_eq_or s⟩, _, _, rfl, rfl, ?_⟩
  exact next_answer_of_eq (colorWord_setColor (colorTuple 255 0 128 0) s) _

/-- Settles O10: COLOR is the data word, and the channels are its bytes. -/
theorem wrColorSetsChannels : Obligations.WrColorSetsChannels := by
  unfold Obligations.WrColorSetsChannels
  intro s d
  refine ⟨rfl, s.setColor d, rfl, rfl, rfl, rfl, rfl, rfl, ?_⟩
  rintro rfl
  have hbytes : white 0x01000000 = 1 ∧ red 0x01000000 = 0 ∧ green 0x01000000 = 0 ∧ blue 0x01000000 = 0 := by decide
  exact hbytes

/-! ### CMD, INDEX and INFO -/

/-- Settles O11: a data word that decodes runs as its command, one that does not sets CMD_ERR, and either way a next state
follows. -/
theorem wrCmdExecutesTheCommand : Obligations.WrCmdExecutesTheCommand := by
  unfold Obligations.WrCmdExecutesTheCommand
  intro s d
  refine ⟨rfl, fun i hi => ?_, fun e he => ?_, ?_, rfl⟩
  · obtain ⟨c, hc, rfl⟩ := decode_cmd_ok hi
    exact executeCommand_ok hc s
  · obtain ⟨cause, hcause, -⟩ := decode_cmd_error he
    exact executeCommand_error hcause s
  · obtain ⟨t, ht, -⟩ := executeCommand_effect d s
    exact ⟨t, ht⟩

/-- Settles O12: a MAP of a cell of the board stores its index, and one of a cell outside it leaves INDEX. -/
theorem rdIndexReturnsIndex : Obligations.RdIndexReturnsIndex := by
  unfold Obligations.RdIndexReturnsIndex
  intro s data
  refine ⟨rfl, ⟨s.indexWord, rfl, indexWord_toNat s⟩, fun hflip => ⟨_, exec_map_of_lt (by decide) (by decide) s, ?_⟩,
    fun x y _ _ hout => ⟨_, exec_map_of_outside hout s, rfl⟩⟩
  have hcell : mapIndex Config.H 1 19 false = 20 := by decide
  rw [hflip, hcell]
  rfl

/-- Settles O13: the writes answer the state they are given. -/
theorem writesToReadOnlyIgnored : Obligations.WritesToReadOnlyIgnored := by
  unfold Obligations.WritesToReadOnlyIgnored
  intro s d
  exact ⟨rfl, rfl, rfl, rfl, rfl, exec_rdInfo s⟩

/-- Settles O14: CMD reads as 0, and INFO as 20 over 10. -/
theorem rdCmdAndInfoReturnConstants : Obligations.RdCmdAndInfoReturnConstants := by
  unfold Obligations.RdCmdAndInfoReturnConstants
  intro s data
  exact ⟨rfl, rfl, rfl, exec_rdInfo s, exec_rdInfo s⟩

/-! ### A table word placed for the next step -/

/-- A table word that decodes is a word of its row's format (R63). -/
theorem decodeTableWord_some {nbits w : Nat} {i : Instr} (h : decodeTableWord nbits w = some i) :
    ∃ e, tableWord nbits w = some e ∧ decode e = .ok i := by
  unfold decodeTableWord at h
  cases he : tableWord nbits w with
  | none => simp [he] at h
  | some e =>
    cases hd : decode e with
    | error err => simp [he, hd, Except.toOption] at h
    | ok j => exact ⟨e, rfl, by simpa [he, hd, Except.toOption] using h⟩

theorem withFetchWord_of_tableWord {nbits w : Nat} {e : Encoded} (h : tableWord nbits w = some e) (s : State) :
    s.withFetchWord nbits w = s.withInputs (inputOf e :: s.inputs) := by
  simp [State.withFetchWord, h]

/-- Settles O45: the placed word is the first input, and taking it leaves the inputs there were. -/
theorem placedTableWordRuns : Obligations.PlacedTableWordRuns := by
  unfold Obligations.PlacedTableWordRuns
  intro s nbits w i h
  obtain ⟨e, he, hd⟩ := decodeTableWord_some h
  calc step (s.withFetchWord nbits w) = step (s.withInputs (inputOf e :: s.inputs)) := by
        rw [withFetchWord_of_tableWord he]
    _ = serve (inputOf e) s := step_cons rfl
    _ = exec i s := serve_inputOf hd s

end Sys2Proof.Machine
end

section
/-! Family 41_command_dispatch: the checks of a command word as facts about its number, and what a word does that passes or
fails them (R82 to R85). -/

namespace Sys2Proof.Machine

/-! ### The checks of a command word -/

/-- RSV1 is the top byte, so nothing stands above it to be cut off (R55). -/
theorem cmdRsv1_toNat_eq_div (d : Word) : (cmdRsv1 d).toNat = d.toNat / 2 ^ 24 := by
  have hd := d.isLt
  rw [cmdRsv1_toNat]
  omega

/-- The command decoder with each field read off the word's number (R55, R82). -/
theorem decodeCommand_eq_ite (d : Word) : decodeCommand d =
    if 3 ≤ d.toNat % 16 then .error .opcode
    else if d.toNat / 2 ^ 24 ≠ 0 ∨ d.toNat / 2 ^ 4 % 2 ^ 4 ≠ 0 then .error .reservedBits
    else if d.toNat % 16 ≠ 1 ∧ d.toNat / 2 ^ 8 % 2 ^ 16 ≠ 0 then .error .reservedBits
    else if d.toNat % 16 = 0 then .ok .nop
    else if d.toNat % 16 = 1 then .ok (.map (d.toNat / 2 ^ 8 % 2 ^ 8) (d.toNat / 2 ^ 16 % 2 ^ 8))
    else .ok .send := by
  simp only [decodeCommand, ne_eq, ← BitVec.toNat_inj, cmdOp_toNat, cmdRsv0_toNat, cmdRsv1_toNat_eq_div, cmdX_toNat,
    cmdY_toNat, cmdXY_toNat]
  rfl

theorem decodeCommand_of_reserved_opcode {d : Word} (h : 3 ≤ d.toNat % 16) : decodeCommand d = .error .opcode := by
  rw [decodeCommand_eq_ite, if_pos h]

/-- The two reserved-bit checks of R82 as the one condition of R85. -/
theorem decodeCommand_of_reserved_bits {d : Word} (hop : d.toNat % 16 < 3)
    (h : d.toNat / 2 ^ 24 ≠ 0 ∨ d.toNat / 2 ^ 4 % 2 ^ 4 ≠ 0 ∨ (d.toNat % 16 ≠ 1 ∧ d.toNat / 2 ^ 8 % 2 ^ 16 ≠ 0)) :
    decodeCommand d = .error .reservedBits := by
  rw [decodeCommand_eq_ite, if_neg (Nat.not_le.mpr hop)]
  by_cases hrsv : d.toNat / 2 ^ 24 ≠ 0 ∨ d.toNat / 2 ^ 4 % 2 ^ 4 ≠ 0
  · rw [if_pos hrsv]
  · rw [if_neg hrsv, if_pos ((or_assoc.mpr h).resolve_left hrsv)]

/-! ### The error bits of a command word -/

/-- "Only one error bit is set per command word: CMD_ERR, MAP_ERR or TX_REJECT, never two" (R82). -/
theorem CommandEffect.changes_at_most_one_error {d : Word} {s t : State} (h : CommandEffect d s t) :
    (t.tx_reject = s.tx_reject ∧ t.cmd_err = s.cmd_err) ∨ (t.map_err = s.map_err ∧ t.cmd_err = s.cmd_err) ∨
      (t.map_err = s.map_err ∧ t.tx_reject = s.tx_reject) := by
  cases h with
  | mapOff _ _ => exact .inl ⟨rfl, rfl⟩
  | sendBusy _ _ => exact .inr (.inl ⟨rfl, rfl⟩)
  | undecodable _ | nop _ | mapOn _ _ _ | sendIdle _ _ => exact .inr (.inr ⟨rfl, rfl⟩)

/-! ### The obligations -/

/-- Settles O18: the decoder's checks are R82's, each answer runs as its command or as CMD_ERR, and the word's effect changes
at most one error bit. -/
theorem commandDispatchByOpcode : Obligations.CommandDispatchByOpcode := by
  unfold Obligations.CommandDispatchByOpcode
  intro s d
  constructor
  · have hdec := decodeCommand_eq_ite d
    split_ifs at hdec ⊢
    · exact executeCommand_error hdec s
    · exact executeCommand_error hdec s
    · exact executeCommand_error hdec s
    · exact executeCommand_ok hdec s
    · exact executeCommand_ok hdec s
    · exact executeCommand_ok hdec s
  · obtain ⟨t, ht, -⟩ := executeCommand_effect d s
    have heffect := commandEffect_of_executeCommand ht
    obtain ⟨hmap, htx, hcmd⟩ := heffect.keepsErrors
    refine ⟨t, ht, ?_⟩
    rcases heffect.changes_at_most_one_error with ⟨h, h'⟩ | ⟨h, h'⟩ | ⟨h, h'⟩
    · exact .inl ⟨h, h', hmap⟩
    · exact .inr (.inl ⟨h, h', htx⟩)
    · exact .inr (.inr ⟨h, h', hcmd⟩)

/-- Settles O17: such a word fails a check of the decoder, and all that does is set CMD_ERR. -/
theorem reservedCommandWordsSetCmdErrOnly : Obligations.ReservedCommandWordsSetCmdErrOnly := by
  unfold Obligations.ReservedCommandWordsSetCmdErrOnly
  intro s d
  exact ⟨fun hop => executeCommand_error (decodeCommand_of_reserved_opcode hop) s,
    fun hop hbits => executeCommand_error (decodeCommand_of_reserved_bits hop hbits) s,
    executeCommand_error (d := 0x0000000F) (decodeCommand_of_reserved_opcode (by decide)) s,
    executeCommand_error (d := 0x00000012) (decodeCommand_of_reserved_bits (by decide) (by decide)) s,
    executeCommand_error (d := 0x00010002) (decodeCommand_of_reserved_bits (by decide) (by decide)) s⟩

/-- Settles O16: a word with opcode 0 that is not 0 has its nonzero bits in reserved fields. -/
theorem nopChangesNothing : Obligations.NopChangesNothing := by
  unfold Obligations.NopChangesNothing
  intro s d
  refine ⟨rfl, rfl, rfl, fun hop hne => executeCommand_error (decodeCommand_of_reserved_bits (by omega) ?_) s⟩
  have hd := d.isLt
  have hpos : d.toNat ≠ 0 := fun h0 => hne (BitVec.eq_of_toNat_eq h0)
  omega

end Sys2Proof.Machine
end

section
/-! Family 42_mapper: MAP (R87), and the serpentine map and its inverse (R88 to R92). Within a column the map is two reversals
of the rows, the flip and the turn of an odd column; each keeps the rows of the board and undoes itself, and the rest of the
family follows from that. -/

namespace Sys2Proof.Machine

/-! ### The two reversals of a column's rows -/

/-- The place of row `r` in column `x`: even columns run one way, odd columns the other (R88). `mapIndex_eq_add_turnRow` and
`unmapRow_eq_turnRow` tie it to the map and its inverse. -/
def turnRow (h x r : Nat) : Nat := if x % 2 = 0 then r else h - 1 - r

theorem turnRow_of_even {x : Nat} (hx : x % 2 = 0) (h r : Nat) : turnRow h x r = r := if_pos hx

theorem turnRow_of_odd {x : Nat} (hx : x % 2 = 1) (h r : Nat) : turnRow h x r = h - 1 - r := if_neg (by omega)

@[simp] theorem flipRow_false (h y : Nat) : flipRow h y false = y := rfl

@[simp] theorem flipRow_true (h y : Nat) : flipRow h y true = h - 1 - y := rfl

theorem flipRow_lt {h y : Nat} (f : Bool) (hy : y < h) : flipRow h y f < h := by
  cases f with
  | false => exact hy
  | true => rw [flipRow_true]; omega

theorem turnRow_lt {h r : Nat} (x : Nat) (hr : r < h) : turnRow h x r < h := by
  rcases Nat.mod_two_eq_zero_or_one x with hx | hx
  · rwa [turnRow_of_even hx]
  · rw [turnRow_of_odd hx]; omega

theorem flipRow_flipRow {h y : Nat} (f : Bool) (hy : y < h) : flipRow h (flipRow h y f) f = y := by
  cases f with
  | false => rfl
  | true => exact Nat.sub_sub_self (Nat.le_sub_one_of_lt hy)

theorem turnRow_turnRow {h r : Nat} (x : Nat) (hr : r < h) : turnRow h x (turnRow h x r) = r := by
  rcases Nat.mod_two_eq_zero_or_one x with hx | hx
  · rw [turnRow_of_even hx, turnRow_of_even hx]
  · rw [turnRow_of_odd hx, turnRow_of_odd hx, Nat.sub_sub_self (Nat.le_sub_one_of_lt hr)]

/-! ### The map and its inverse by column and place -/

theorem mapIndex_eq_add_turnRow (h x y : Nat) (f : Bool) : mapIndex h x y f = x * h + turnRow h x (flipRow h y f) :=
  (apply_ite (x * h + ·) ..).symm

theorem unmapRow_eq_turnRow (h i : Nat) : unmapRow h i = turnRow h (i / h) (i % h) := rfl

/-- A flipped cell has the index of the cell in the mirrored row (R89). -/
theorem mapIndex_true_eq_mirrored (h x y : Nat) : mapIndex h x y true = mapIndex h x (h - 1 - y) false := rfl

/-- A column's block of indices is its own, flipped or not (R89). -/
theorem mapIndex_div {h y : Nat} (x : Nat) (f : Bool) (hy : y < h) : mapIndex h x y f / h = x := by
  have hplace : turnRow h x (flipRow h y f) < h := turnRow_lt x (flipRow_lt f hy)
  rw [mapIndex_eq_add_turnRow, Nat.mul_comm, Nat.mul_add_div (by omega), Nat.div_eq_of_lt hplace, Nat.add_zero]

theorem mapIndex_mod {h y : Nat} (x : Nat) (f : Bool) (hy : y < h) :
    mapIndex h x y f % h = turnRow h x (flipRow h y f) := by
  rw [mapIndex_eq_add_turnRow, Nat.mul_add_mod', Nat.mod_eq_of_lt (turnRow_lt x (flipRow_lt f hy))]

theorem unmapRow_mapIndex {h y : Nat} (x : Nat) (f : Bool) (hy : y < h) :
    unmapRow h (mapIndex h x y f) = flipRow h y f := by
  rw [unmapRow_eq_turnRow, mapIndex_div x f hy, mapIndex_mod x f hy, turnRow_turnRow x (flipRow_lt f hy)]

/-- "`unmap(map(x, y, f), f) = (x, y)`" (R92). -/
theorem unmapIndex_mapIndex {h y : Nat} (x : Nat) (f : Bool) (hy : y < h) :
    unmapIndex h (mapIndex h x y f) f = (x, y) := by
  rw [unmapIndex, mapIndex_div x f hy, unmapRow_mapIndex x f hy, flipRow_flipRow f hy]

theorem unmapRow_lt {h : Nat} (i : Nat) (hh : 0 < h) : unmapRow h i < h :=
  turnRow_lt (i / h) (Nat.mod_lt i hh)

/-- "`map(unmap(i, f), f) = i`" (R92). -/
theorem mapIndex_unmapIndex {h : Nat} (i : Nat) (f : Bool) (hh : 0 < h) :
    mapIndex h (unmapIndex h i f).1 (unmapIndex h i f).2 f = i :=
  calc mapIndex h (i / h) (flipRow h (unmapRow h i) f) f
      = i / h * h + turnRow h (i / h) (turnRow h (i / h) (i % h)) := by
        rw [mapIndex_eq_add_turnRow, flipRow_flipRow f (unmapRow_lt i hh), unmapRow_eq_turnRow]
    _ = i / h * h + i % h := by rw [turnRow_turnRow _ (Nat.mod_lt i hh)]
    _ = i := Nat.div_add_mod' i h

/-- The cell of an index of the strip is on the board. -/
theorem unmapIndex_lt {w h i : Nat} (f : Bool) (hi : i < w * h) :
    (unmapIndex h i f).1 < w ∧ (unmapIndex h i f).2 < h := by
  have hh : 0 < h := Nat.pos_of_lt_mul_left hi
  exact ⟨(Nat.div_lt_iff_lt_mul hh).mpr hi, flipRow_lt f (unmapRow_lt i hh)⟩

/-! ### The strip's length, and MAP's word -/

/-- "`W*H - 1 <= 65024`" for the boards of R6's limits (R90). -/
theorem lastIndex_le_of_boardOk {w h : Nat} (hok : Config.boardOk w h = true) : w * h - 1 ≤ 65024 := by
  have hlimits : ((1 ≤ w ∧ w ≤ 255) ∧ 1 ≤ h) ∧ h ≤ 255 := by simpa [Config.boardOk] using hok
  obtain ⟨⟨⟨-, hw⟩, -⟩, hh⟩ := hlimits
  exact Nat.sub_le_sub_right (Nat.mul_le_mul hw hh) 1

/-- MAP's word as the number its fields make (R55, R87). -/
theorem ofNat_eq_commandWord_map {x y : Nat} (hx : x ≤ 255) (hy : y ≤ 255) :
    BitVec.ofNat 32 (y * 2 ^ 16 + x * 2 ^ 8 + 1) = commandWord 1 x y := by
  have hop : (1 : BitVec 4).toNat = 1 := rfl
  apply BitVec.eq_of_toNat_eq
  rw [BitVec.toNat_ofNat, commandWord_toNat, hop]
  omega

/-! ### The obligations -/

/-- Settles O20: MAP outside the board and inside it, and its word, which is the encoder's. -/
theorem mapSetsIndexOrMapErr : Obligations.MapSetsIndexOrMapErr := by
  unfold Obligations.MapSetsIndexOrMapErr
  intro s x y
  refine ⟨fun hx hy => ?_, fun _ _ hout => exec_map_of_outside hout s,
    fun hx hy => ⟨_, exec_map_of_lt hx hy s, rfl, ?_⟩, fun hflip => ?_⟩
  · exact (decodeCommand_ok_iff_of_encode (c := .map x y) ((wellFormed_map_iff x y).mpr ⟨hx, hy⟩) rfl).mpr
      (ofNat_eq_commandWord_map hx hy)
  · exact (ofNat_mapIndex_toNat s.ctrl_flip hx hy).trans (mapIndex_eq_add_turnRow 20 x y s.ctrl_flip)
  · have hcell : BitVec.ofNat 16 (mapIndex Config.H 1 19 s.ctrl_flip) = 20 := by rw [hflip]; decide
    calc exec (.wrCmd 0x00130101) s = exec (.map 1 19) s := executeCommand_ok (d := 0x00130101) (c := .map 1 19) rfl s
      _ = .next (s.setIndex (BitVec.ofNat 16 (mapIndex Config.H 1 19 s.ctrl_flip))) :=
        exec_map_of_lt (by decide) (by decide) s
      _ = .next { s with index := 20 } := by rw [hcell]; rfl

/-- Settles O22: an even column leaves the flip as it is and an odd one reverses it once more. -/
theorem mapClosedForm : Obligations.MapClosedForm := by
  unfold Obligations.MapClosedForm
  intro w h x y _ hy
  refine ⟨fun hx => ?_, fun hx => ?_, fun f => mapIndex_div x f hy, mapIndex_true_eq_mirrored h x y⟩
  · simp only [mapIndex_eq_add_turnRow, turnRow_of_even hx, flipRow_false, flipRow_true, and_self]
  · have hback : h - 1 - (h - 1 - y) = y := Nat.sub_sub_self (Nat.le_sub_one_of_lt hy)
    simp only [mapIndex_eq_add_turnRow, turnRow_of_odd hx, flipRow_false, flipRow_true, hback, and_self]

/-- Settles O23: the place in the column is below `h`, and the strip of a board within R6's limits ends below `2 ^ 16`. -/
theorem mapRangeFitsIndex : Obligations.MapRangeFitsIndex := by
  unfold Obligations.MapRangeFitsIndex
  intro w h x y f hok hx hy
  have hflip : flipRow h y f < h := flipRow_lt f hy
  have hplace : turnRow h x (flipRow h y f) < h := turnRow_lt x hflip
  have heq := mapIndex_eq_add_turnRow h x y f
  have hlt : mapIndex h x y f < w * h := mapIndex_lt f hx hy
  have hlast : w * h - 1 ≤ 65024 := lastIndex_le_of_boardOk hok
  refine ⟨by omega, by omega, by omega, hlast, by omega, by omega, ?_⟩
  rw [BitVec.toNat_ofNat, Nat.mod_eq_of_lt (by omega)]

/-- Settles O24: one-to-one because `unmapIndex` undoes the map, and onto because the map undoes `unmapIndex`. -/
theorem mapIsBijection : Obligations.MapIsBijection := by
  unfold Obligations.MapIsBijection
  intro w h f
  refine ⟨fun x y => mapIndex_lt f, fun x y x' y' _ hy _ hy' heq => ?_, fun i hi => ?_⟩
  · have hcell : (x, y) = (x', y') := by
      rw [← unmapIndex_mapIndex x f hy, heq, unmapIndex_mapIndex x' f hy']
    exact Prod.mk.inj hcell
  · obtain ⟨hx, hy⟩ := unmapIndex_lt f hi
    exact ⟨_, _, hx, hy, mapIndex_unmapIndex i f (by omega)⟩

/-- Settles O25: each of the two reversals undoes itself, in the order of `unmapIndex` and in that of `mapIndex`. -/
theorem unmapInvertsMap : Obligations.UnmapInvertsMap := by
  unfold Obligations.UnmapInvertsMap
  intro w h f
  refine ⟨fun x y _ hy => unmapIndex_mapIndex x f hy, fun i hi => ?_⟩
  obtain ⟨hx, hy⟩ := unmapIndex_lt f hi
  exact ⟨hx, hy, mapIndex_unmapIndex i f (by omega)⟩

end Sys2Proof.Machine
end

section
/-! Family 43_encoder: the pulses of a SEND and the ticks they last (R95 to R98, R102), and the waveform the sequencer drives from
SEQ (R100, R101, R104, R105). A transmission is looked at as the list of levels that its ticks drive, one entry a tick. -/

namespace Sys2Proof.Machine

/-! ### The pulse list and its segments -/

/-- The places in COLOR of the bits sent, in wire order (R96). -/
def sentPlaces (rgbw : Bool) : List Nat :=
  [15, 14, 13, 12, 11, 10, 9, 8] ++ [7, 6, 5, 4, 3, 2, 1, 0] ++ [23, 22, 21, 20, 19, 18, 17, 16] ++
    (if rgbw then [31, 30, 29, 28, 27, 26, 25, 24] else [])

theorem bits_eq_map_sentPlaces (cfg : SendCfg) : cfg.bits = (sentPlaces cfg.rgbw).map cfg.color.getLsbD :=
  bits_eq_places cfg

/-- Bit `i` of channel `j` is sent at position `8j + (7 - i)` (R97). -/
theorem sentPlaces_getElem? : ∀ (rgbw : Bool), ∀ j < Config.channels rgbw, ∀ i < 8,
    (sentPlaces rgbw)[8 * j + (7 - i)]? =
      some ((if j = 0 then 8 else if j = 1 then 0 else if j = 2 then 16 else 24) + i) := by
  decide

theorem pulses_length (cfg : SendCfg) : cfg.pulses.length = 8 * Config.channels cfg.rgbw + 1 := by
  simp [SendCfg.pulses, bits_length]

/-- A bit sent has its pulse at its own position; the reset pulse comes after all of them. -/
theorem pulses_getElem?_of_bits {cfg : SendCfg} {n : Nat} {b : Bool} (h : cfg.bits[n]? = some b) :
    cfg.pulses[n]? = some (cfg.bitPulse b) := by
  have hmap : (cfg.bits.map cfg.bitPulse)[n]? = some (cfg.bitPulse b) := by rw [List.getElem?_map, h]; rfl
  obtain ⟨hlt, -⟩ := List.getElem?_eq_some_iff.mp hmap
  rw [SendCfg.pulses, List.getElem?_append_left hlt, hmap]

theorem bitPulse_segments (cfg : SendCfg) (b : Bool) : (cfg.bitPulse b).segments =
    if b then [(.high, cfg.t1h.toNat), (.low, cfg.t1l.toNat)] else [(.high, cfg.t0h.toNat), (.low, cfg.t0l.toNat)] := by
  cases b <;> rfl

theorem pulses_segments (cfg : SendCfg) : cfg.pulses.flatMap Pulse.segments =
    cfg.bits.flatMap (fun b => (cfg.bitPulse b).segments) ++ [(.low, cfg.trst.toNat)] := by
  simp [SendCfg.pulses, List.flatMap_map, Pulse.segments]

/-! ### The ticks of a transmission -/

theorem totalTicks_append (xs ys : List Segment) : totalTicks (xs ++ ys) = totalTicks xs + totalTicks ys := by
  simp [totalTicks]

/-- The bits' share of R102's total. -/
theorem totalTicks_bits (cfg : SendCfg) (bits : List Bool) :
    totalTicks (bits.flatMap fun b => (cfg.bitPulse b).segments) =
      bits.count true * (cfg.t1h.toNat + cfg.t1l.toNat) + bits.count false * (cfg.t0h.toNat + cfg.t0l.toNat) := by
  induction bits with
  | nil => simp
  | cons b bits ih =>
    rw [List.flatMap_cons, totalTicks_append, ih, bitPulse_segments]
    cases b <;> simp [Nat.add_mul] <;> omega

theorem totalTicks_transmission (cfg : SendCfg) : totalTicks cfg.transmission =
    cfg.bits.count true * (cfg.t1h.toNat + cfg.t1l.toNat) + cfg.bits.count false * (cfg.t0h.toNat + cfg.t0l.toNat) +
      cfg.trst.toNat := by
  rw [SendCfg.transmission, totalTicks_nonzero, pulses_segments, totalTicks_append, totalTicks_bits]
  simp

/-- A transmission that lasts no tick has no segment (R95's last sentence). -/
theorem transmission_of_all_zero {cfg : SendCfg} (h0h : cfg.t0h = 0) (h0l : cfg.t0l = 0) (h1h : cfg.t1h = 0)
    (h1l : cfg.t1l = 0) (hrst : cfg.trst = 0) : cfg.transmission = [] := by
  rw [← totalTicks_eq_zero_iff (transmission_seqOk cfg), totalTicks_transmission]
  simp [h0h, h0l, h1h, h1l, hrst]

/-! ### What SEND leaves -/

theorem exec_send_of_busy {s : State} (h : s.seq ≠ []) : exec .send s = .next s.raiseTxReject :=
  if_pos ((busy_iff s).mpr h)

theorem seq_of_send {s t : State} (h : s.seq = []) (ht : exec .send s = .next t) : t.seq = s.snapshot.transmission := by
  rw [exec_send_of_idle h] at ht
  cases ht
  rfl

theorem setSeq_of_eq {s : State} {segs : List Segment} (h : s.seq = segs) : s.setSeq segs = s := by
  subst h
  rfl

/-! ### The waveform of a list of segments -/

/-- The levels that DOUT holds while these segments are driven, one for each tick (R101). -/
def waveform (segs : List Segment) : List Level := segs.flatMap fun p => List.replicate p.2 p.1

@[simp] theorem waveform_nil : waveform [] = [] := rfl

@[simp] theorem waveform_cons (p : Segment) (rest : List Segment) :
    waveform (p :: rest) = List.replicate p.2 p.1 ++ waveform rest := rfl

@[simp] theorem waveform_append (xs ys : List Segment) : waveform (xs ++ ys) = waveform xs ++ waveform ys :=
  List.flatMap_append

@[simp] theorem length_waveform (segs : List Segment) : (waveform segs).length = totalTicks segs := by
  simp [waveform, totalTicks, List.length_flatMap]

/-- Dropping the zero durations is not seen on DOUT (R98). -/
theorem waveform_nonzero (segs : List Segment) : waveform (nonzero segs) = waveform segs := by
  induction segs with
  | nil => rfl
  | cons p rest ih =>
    by_cases h : p.2 = 0
    · have hdrop : nonzero (p :: rest) = nonzero rest := List.filter_cons_of_neg (by simp [h])
      simp [hdrop, ih, h]
    · have hkeep : nonzero (p :: rest) = p :: nonzero rest := List.filter_cons_of_pos (by simp [h])
      simp [hkeep, ih]

/-- The levels within the span of segment `j` (R101). -/
theorem waveform_getElem?_of_span {segs : List Segment} {j k : Nat} (hj : j < segs.length)
    (hlo : totalTicks (segs.take j) ≤ k) (hhi : k < totalTicks (segs.take (j + 1))) :
    (waveform segs)[k]? = some segs[j].1 := by
  have hsplit : segs = segs.take j ++ segs[j] :: segs.drop (j + 1) := by simp
  rw [List.take_succ_eq_append_getElem hj, totalTicks_append, totalTicks_cons, totalTicks_nil] at hhi
  calc (waveform segs)[k]?
      = (waveform (segs.take j) ++ (List.replicate segs[j].2 segs[j].1 ++ waveform (segs.drop (j + 1))))[k]? := by
        rw [← waveform_cons, ← waveform_append, ← hsplit]
    _ = some segs[j].1 := by
        rw [List.getElem?_append_right (by simpa using hlo), List.getElem?_append_left (by simp; omega),
          List.getElem?_replicate, if_pos (by simp; omega)]

/-! ### The sequencer drives the waveform of SEQ -/

/-- A tick drives the first level of SEQ's waveform, Low where there is none, and leaves the others to come (R100). -/
theorem tick_waveform {s : State} (h : SeqOk s.seq) :
    (tick s).dout = (waveform s.seq).head?.getD .low ∧ waveform (tick s).seq = (waveform s.seq).tail := by
  rcases tick_cases s with ⟨hs, ht⟩ | ⟨lv, d, rest, hs, ht⟩
  · simp [hs, ht]
  · have hd : 1 ≤ d := (h (lv, d) (by simp [hs])).1
    obtain ⟨n, rfl⟩ := Nat.exists_eq_add_of_le' hd
    cases n with
    | zero => simp [hs, ht]
    | succ n => simp [hs, ht, List.replicate_succ]

theorem ticks_seqOk (n : Nat) {s : State} (h : SeqOk s.seq) : SeqOk (ticks n s).seq := by
  induction n generalizing s with
  | zero => exact h
  | succ n ih => exact ih (tick_seqOk h)

theorem waveform_ticks (n : Nat) {s : State} (h : SeqOk s.seq) :
    waveform (ticks n s).seq = (waveform s.seq).drop n := by
  induction n generalizing s with
  | zero => rfl
  | succ n ih => rw [ticks_succ, ih (tick_seqOk h), (tick_waveform h).2, List.drop_tail]

/-- Tick `k` drives entry `k` of SEQ's waveform, and Low after its end (R101). -/
theorem levelAt_eq_waveform {s : State} (h : SeqOk s.seq) (k : Nat) : levelAt s k = (waveform s.seq)[k]?.getD .low := by
  rw [levelAt, (tick_waveform (ticks_seqOk k h)).1, waveform_ticks k h, List.head?_drop]

/-- SEQ is not empty exactly while its ticks are not over (R101). -/
theorem busy_ticks_iff {s : State} (h : SeqOk s.seq) (k : Nat) : (ticks k s).busy = true ↔ k < totalTicks s.seq := by
  have htotal : totalTicks (ticks k s).seq = totalTicks s.seq - k := by
    rw [← length_waveform, waveform_ticks k h, List.length_drop, length_waveform]
  rw [busy_iff, ne_eq, ← totalTicks_eq_zero_iff (ticks_seqOk k h), htotal]
  omega

theorem levelAt_of_total_le {s : State} (h : SeqOk s.seq) {k : Nat} (hk : totalTicks s.seq ≤ k) : levelAt s k = .low := by
  rw [levelAt_eq_waveform h, List.getElem?_eq_none (by simpa using hk)]
  rfl

/-- A waveform that ends in a Low run of `n` ticks drives Low from `n` ticks before its end on. -/
theorem levelAt_of_low_end {s : State} (h : SeqOk s.seq) {front : List Level} {n k : Nat}
    (hend : waveform s.seq = front ++ List.replicate n .low) (hk : totalTicks s.seq - n ≤ k) : levelAt s k = .low := by
  have hfront : front.length ≤ k := by
    rw [← length_waveform, hend] at hk
    simpa using hk
  rw [levelAt_eq_waveform h, hend, List.getElem?_append_right hfront, List.getElem?_replicate]
  split <;> rfl

/-- The last bit's Low and the reset Low are one run at the end of the waveform (R105). -/
theorem waveform_transmission_of_last {cfg : SendCfg} {b : Bool} (h : cfg.bits.getLast? = some b) :
    ∃ front, waveform cfg.transmission =
      front ++ List.replicate ((if b then cfg.t1l.toNat else cfg.t0l.toNat) + cfg.trst.toNat) .low := by
  obtain ⟨bits, hbits⟩ := List.getLast?_eq_some_iff.mp h
  refine ⟨waveform (bits.flatMap fun b => (cfg.bitPulse b).segments) ++
    List.replicate (if b then cfg.t1h.toNat else cfg.t0h.toNat) .high, ?_⟩
  rw [SendCfg.transmission, waveform_nonzero, pulses_segments, hbits, List.flatMap_append]
  cases b <;> simp [bitPulse_segments]

/-! ### The obligations -/

/-- Settles O27: the reset pulse stands after the pulses of the bits, whose positions are `sentPlaces`. -/
theorem pulseCountAndPositions : Obligations.PulseCountAndPositions := by
  unfold Obligations.PulseCountAndPositions
  refine fun cfg => ⟨pulses_length cfg, List.getLast?_concat, fun j i hj hi => ?_⟩
  apply pulses_getElem?_of_bits
  rw [bits_eq_map_sentPlaces, List.getElem?_map, sentPlaces_getElem? cfg.rgbw j hj i hi]
  rfl

/-- Settles O28: `nonzero` of all the segments is `nonzero` pulse by pulse. -/
theorem zeroDurationsAreDropped : Obligations.ZeroDurationsAreDropped := by
  unfold Obligations.ZeroDurationsAreDropped
  refine ⟨fun cfg => List.filter_flatMap .., fun cfg t0h t0l t1h t1l trst => pulses_length _, fun h l hh hl => ?_, rfl, rfl⟩
  simp [nonzero, Pulse.segments, hh, hl]

/-- Settles O29: the 0 bits are the bits sent that are not 1 bits. -/
theorem transmissionDuration : Obligations.TransmissionDuration := by
  unfold Obligations.TransmissionDuration
  rintro cfg n1 rfl
  have hzeros : cfg.bits.count false = 8 * Config.channels cfg.rgbw - cfg.bits.count true := by
    have hcount := List.count_true_add_count_false cfg.bits
    rw [bits_length] at hcount
    omega
  exact ⟨hzeros ▸ totalTicks_transmission cfg, rfl⟩

/-- Settles O26: what SEQ takes is the transmission of the snapshot, with its segments and its bits written out. -/
theorem sendLoadsTheTransmission : Obligations.SendLoadsTheTransmission := by
  unfold Obligations.SendLoadsTheTransmission
  refine fun s => ⟨rfl, exec_send_of_busy, fun hidle => ⟨_, exec_send_of_idle hidle, ?_, busy_iff _⟩,
    fun hidle h0h h0l h1h h1l hrst => ?_, fun hidle hcfg => ⟨_, exec_send_of_idle hidle, ?_⟩⟩
  · rw [SendCfg.transmission, pulses_segments, bits_eq_places, funext (bitPulse_segments s.snapshot)]
    rfl
  · have hnone : s.snapshot.transmission = [] := transmission_of_all_zero h0h h0l h1h h1l hrst
    rw [exec_send_of_idle hidle, hnone, setSeq_of_eq hidle]
  · rw [State.setSeq_seq, hcfg]
    decide

/-- Settles O31: SEQ is the transmission, whose waveform the ticks drive. -/
theorem waveformOfAnAcceptedSend : Obligations.WaveformOfAnAcceptedSend := by
  unfold Obligations.WaveformOfAnAcceptedSend
  intro s t hidle ht
  have hok : SeqOk t.seq := seq_of_send hidle ht ▸ transmission_seqOk _
  refine ⟨fun j k hj hlo hhi => ?_, busy_ticks_iff hok, fun k => levelAt_of_total_le hok⟩
  rw [levelAt_eq_waveform hok, waveform_getElem?_of_span hj hlo hhi]
  rfl

/-- Settles O32: DOUT and BUSY at every tick are functions of the SEQ that was loaded. -/
theorem sendIsDeterministic : Obligations.SendIsDeterministic := by
  unfold Obligations.SendIsDeterministic
  intro s s' t t' hidle hidle' hcfg ht ht'
  have hseq : t.seq = t'.seq := by rw [seq_of_send hidle ht, seq_of_send hidle' ht', hcfg]
  have hok' : SeqOk t'.seq := seq_of_send hidle' ht' ▸ transmission_seqOk _
  have hok : SeqOk t.seq := hseq ▸ hok'
  refine ⟨hseq, fun k => ⟨?_, ?_⟩⟩
  · rw [levelAt_eq_waveform hok, levelAt_eq_waveform hok', hseq]
  · rw [Bool.eq_iff_iff, busy_ticks_iff hok, busy_ticks_iff hok', hseq]

/-- Settles O33: the transmission's waveform ends in one Low run of that length. -/
theorem finalLowRunIsMerged : Obligations.FinalLowRunIsMerged := by
  unfold Obligations.FinalLowRunIsMerged
  intro s t b hidle ht hlast k hk
  have hseq := seq_of_send hidle ht
  have hok : SeqOk t.seq := hseq ▸ transmission_seqOk _
  obtain ⟨front, hend⟩ := waveform_transmission_of_last hlast
  exact levelAt_of_low_end hok (hseq ▸ hend) hk

/-- Settles O30: the three forms of SEQ's head. -/
theorem tickDrivesTheHead : Obligations.TickDrivesTheHead := by
  unfold Obligations.TickDrivesTheHead
  refine fun s => ⟨fun h => ?_, fun lv rest h => tick_cons h, fun lv d rest h => tick_cons h⟩
  rw [tick_idle h, State.drive, h]

end Sys2Proof.Machine
end

section
/-! Family 60_exceptions: every instruction completes (R107), each error bit has one cause (R108), an access that fails a
descriptor check changes nothing (R111), and a SEND that races the last tick of a transmission (R113). -/

namespace Sys2Proof.Machine

/-! ### Every instruction completes -/

/-- The inputs still to come are no register of the block, and no effect of an instruction touches them. -/
theorem Effect.keeps_inputs {s t : State} (he : Effect s t) : t.inputs = s.inputs ∧ t.turn = s.turn := by
  cases he <;> exact ⟨rfl, rfl⟩

/-- Settles O58: every instruction answers with an effect, and an effect leaves the inputs still to come. -/
theorem everyInstructionCompletes : Obligations.EveryInstructionCompletes := by
  unfold Obligations.EveryInstructionCompletes
  intro i s
  obtain ⟨t, ht, heffect⟩ := exec_effect i s
  exact ⟨t, ht, heffect.keeps_inputs⟩

/-! ### The causes of the error bits -/

/-- The cause column of R108, for a command word. -/
theorem CommandEffect.cause_of_error {d : Word} {s t : State} (h : CommandEffect d s t) :
    (s.map_err = false → t.map_err = true →
      ∃ x y, decodeCommand d = .ok (.map x y) ∧ (Config.W ≤ x ∨ Config.H ≤ y)) ∧
    (s.tx_reject = false → t.tx_reject = true → decodeCommand d = .ok .send ∧ s.seq ≠ []) ∧
    (s.cmd_err = false → t.cmd_err = true → ∃ e, decodeCommand d = .error e) := by
  have unset {b : Bool} {P : Prop} (h0 : b = false) (h1 : b = true) : P := by simp [h0] at h1
  cases h with
  | undecodable hd => exact ⟨unset, unset, fun _ _ => ⟨_, hd⟩⟩
  | mapOff hd hxy => exact ⟨fun _ _ => ⟨_, _, hd, hxy⟩, unset, unset⟩
  | sendBusy hd hs => exact ⟨unset, fun _ _ => ⟨hd, hs⟩, unset⟩
  | nop _ | mapOn _ _ _ | sendIdle _ _ => exact ⟨unset, unset, unset⟩

/-- Every step served a command word or sets no error bit: the bits that are 1 after it were 1 before. -/
theorem step_command_or_setsNoError {s t : State} (h : step s = .next t) :
    (∃ d, s.nextInput = .access 0x158 d ∧ CommandEffect d s.taken t) ∨ KeepsErrors t s.taken := by
  cases hi : s.nextInput with
  | tick =>
    rw [step_of hi] at h
    obtain ⟨lv, segs, htick⟩ := tick_frame s.taken
    rw [serve_tick, htick] at h
    cases h
    exact .inr ⟨id, id, id⟩
  | reset =>
    rw [step_of hi] at h
    cases h
    exact .inr ⟨nofun, nofun, nofun⟩
  | access desc data =>
    cases step_accessEffect hi h with
    | command hdesc hcmd => exact .inl ⟨data, by rw [hdesc], hcmd⟩
    | other hsame => exact .inr ⟨hsame.map_err.symm.trans, hsame.tx_reject.symm.trans, hsame.cmd_err.symm.trans⟩
    | statusWrite _ => exact .inr ⟨Bool.and_elim_left, Bool.and_elim_left, Bool.and_elim_left⟩

theorem decodeCommand_eq_send_iff (d : Word) : decodeCommand d = .ok .send ↔ d = 0x00000002 :=
  decodeCommand_ok_iff_of_encode (c := .send) rfl rfl

/-- Settles O39: only a command word sets an error bit, and it sets each for its own cause. -/
theorem errorBitsAreSetByTheirCause : Obligations.ErrorBitsAreSetByTheirCause := by
  unfold Obligations.ErrorBitsAreSetByTheirCause
  intro s t h
  rcases step_command_or_setsNoError h with ⟨d, hi, heffect⟩ | hkeep
  · obtain ⟨hmap, hsend, hcmd⟩ := heffect.cause_of_error
    refine ⟨fun h0 h1 => ?_, fun h0 h1 => ?_, fun h0 h1 => ?_⟩
    · obtain ⟨x, y, hd, hxy⟩ := hmap h0 h1
      exact ⟨d, x, y, hi, hd, hxy⟩
    · obtain ⟨hd, hbusy⟩ := hsend h0 h1
      rw [decodeCommand_eq_send_iff] at hd
      exact ⟨hd ▸ hi, hbusy⟩
    · obtain ⟨e, hd⟩ := hcmd h0 h1
      exact ⟨d, e, hi, hd⟩
  · have unset {a b : Bool} {P : Prop} (hba : b = true → a = true) (ha : a = false) (hb : b = true) : P := by
      simp [hba hb] at ha
    exact ⟨unset hkeep.map_err, unset hkeep.tx_reject, unset hkeep.cmd_err⟩

/-! ### An access that fails a descriptor check -/

/-- An access that is not legal fails one of R54's three checks. -/
theorem decodeBus_of_not_legal {desc : Desc} (h : legalAccess desc = false) (data : Word) :
    ∃ cause, decodeBus desc data = .error ⟨cause, descOffset desc⟩ := by
  by_cases hsize : descSize desc = 0b10
  · by_cases halign : (descOffset desc).toNat % 4 = 0
    · have hoff : 0x20 < (descOffset desc).toNat := by
        by_contra hle
        have hlegal := (legalAccess_iff desc).mpr ⟨hsize, halign, Nat.not_lt.mp hle⟩
        simp [hlegal] at h
      exact ⟨_, decodeBus_of_offset hsize halign hoff data⟩
    · exact ⟨_, decodeBus_of_misaligned hsize halign data⟩
  · exact ⟨_, decodeBus_of_size hsize data⟩

/-- Settles O43: the decoder refuses the access, and what is left is the error response. -/
theorem busErrorChangesNothing : Obligations.BusErrorChangesNothing := by
  unfold Obligations.BusErrorChangesNothing
  intro s desc data hi hbad
  obtain ⟨cause, hd⟩ := decodeBus_of_not_legal hbad data
  exact ⟨cause, stepOn_access_error hi hd⟩

/-! ### A SEND that races the last tick -/

/-- A write of the SEND word to CMD runs SEND (R77). -/
theorem step_of_sendWrite {s : State} (hi : s.nextInput = .access 0x158 0x00000002) : step s = exec .send s.taken :=
  (step_of hi).trans (serve_inputOf (e := .cmd 0x00000002) rfl _)

/-- The step that serves the last tick of a transmission leaves SEQ empty (R100). -/
theorem step_of_lastTick {s : State} {lv : Level} (hseq : s.seq = [(lv, 1)]) (hi : s.nextInput = .tick) :
    step s = .next (s.taken.drive lv []) := by
  have htick : tick s.taken = s.taken.drive lv [] := tick_cons (s := s.taken) hseq
  rw [step_of hi, serve_tick, htick]

/-- Settles O40: SEND looks at the SEQ that the input before it left. -/
theorem sendRacingTheLastTick : Obligations.SendRacingTheLastTick := by
  unfold Obligations.SendRacingTheLastTick
  intro s lv hseq
  constructor
  · intro hsend htick
    have hbusy : s.taken.seq ≠ [] := hseq ▸ List.cons_ne_nil _ _
    have hreject : step s = .next s.taken.raiseTxReject := (step_of_sendWrite hsend).trans (exec_send_of_busy hbusy)
    have hend := step_of_lastTick (s := s.taken.raiseTxReject) hseq htick
    exact ⟨_, _, hreject, rfl, rfl, hend, rfl, rfl⟩
  · intro htick hsend
    have hend := step_of_lastTick hseq htick
    have haccept := (step_of_sendWrite (s := s.taken.drive lv []) hsend).trans (exec_send_of_idle rfl)
    exact ⟨_, _, hend, rfl, haccept, rfl, rfl, rfl, rfl⟩

end Sys2Proof.Machine
end

section
/-! Family 70_reset_and_hazards: an idle block waits for a SEND (R127, R128), a reset ends a transmission (R123), the first SEND
after reset (R125), and a run under a host that makes legal accesses only (R134). -/

namespace Sys2Proof.Machine

/-! ### A block that is idle -/

/-- A command leaves SEQ alone, or is a SEND that an idle block accepts (R95). -/
theorem CommandEffect.seq_cases {d : Word} {s t : State} (h : CommandEffect d s t) :
    t.seq = s.seq ∨ (decodeCommand d = .ok .send ∧ t.seq = s.snapshot.transmission) := by
  cases h with
  | sendIdle hd _ => exact .inr ⟨hd, rfl⟩
  | undecodable _ | nop _ | mapOff _ _ | mapOn _ _ _ | sendBusy _ _ => exact .inl rfl

/-- A step from an idle block leaves it idle, or serves a SEND (R128). -/
theorem step_seq_of_idle {s t : State} (hidle : s.seq = []) (h : step s = .next t) :
    t.seq = [] ∨ (s.nextInput = .access 0x158 0x00000002 ∧ t.seq = s.snapshot.transmission) := by
  cases hi : s.nextInput with
  | tick =>
    rw [step_of hi, serve_tick, tick_idle (s := s.taken) hidle] at h
    cases h
    exact .inl rfl
  | reset =>
    rw [step_of hi] at h
    cases h
    exact .inl rfl
  | access desc data =>
    cases step_accessEffect hi h with
    | statusWrite _ => exact .inl hidle
    | other hsame => exact .inl (hsame.seq.trans hidle)
    | command hdesc hcmd =>
      rcases hcmd.seq_cases with hkeep | ⟨hd, hload⟩
      · exact .inl (hkeep.trans hidle)
      · rw [decodeCommand_eq_send_iff] at hd
        exact .inr ⟨by rw [hdesc, hd], hload⟩

/-- Settles O35: of all that a step from an idle block can do only SEND loads SEQ, and an empty SEQ is all that SEND asks for. -/
theorem onlySendStartsATransmission : Obligations.OnlySendStartsATransmission := by
  unfold Obligations.OnlySendStartsATransmission
  refine fun s hidle => ⟨fun t h hbusy => (step_seq_of_idle hidle h).resolve_left hbusy, fun hi => ?_⟩
  exact ⟨_, (step_of_sendWrite hi).trans (exec_send_of_idle hidle), rfl, rfl⟩

/-- The duty of R127: a host that waits sends to an idle block only. -/
theorem hostWaits_iff (s : State) : s.hostWaits = true ↔ (s.nextInput = .access 0x158 0x00000002 → s.seq = []) := by
  simp [State.hostWaits, Input.isSend, imp_iff_not_or]

/-- Settles O41: TX_REJECT is set by a SEND to a busy block only (R108), and a host that waits makes none. -/
theorem waitingHostIsNeverRejected : Obligations.WaitingHostIsNeverRejected := by
  unfold Obligations.WaitingHostIsNeverRejected
  intro s t hwaits hclear h
  obtain ⟨-, hcause, -⟩ := errorBitsAreSetByTheirCause s t h
  by_contra hset
  obtain ⟨hsend, hbusy⟩ := hcause hclear (Bool.eq_true_of_not_eq_false hset)
  exact hbusy ((hostWaits_iff s).mp hwaits hsend)

/-! ### Reset, and the first SEND after it -/

/-- A block with `n` ticks of Low to drive drives Low at every tick, and is busy for those `n` (R100, R101). -/
theorem ticks_of_low_waveform {s : State} {n : Nat} (hok : SeqOk s.seq) (hlow : waveform s.seq = List.replicate n .low)
    (k : Nat) : levelAt s k = .low ∧ ((ticks k s).busy = true ↔ k < n) := by
  have htotal : totalTicks s.seq = n := by rw [← length_waveform, hlow, List.length_replicate]
  refine ⟨levelAt_of_low_end (front := []) hok hlow ?_, htotal ▸ busy_ticks_iff hok k⟩
  omega

/-- Ticks of an idle block drive Low and leave it idle (R100). -/
theorem ticks_of_idle {s : State} (h : s.seq = []) (k : Nat) : levelAt s k = .low ∧ (ticks k s).busy = false := by
  have hlow : waveform s.seq = List.replicate 0 .low := by simp [h]
  simpa using ticks_of_low_waveform (h ▸ List.forall_mem_nil _) hlow k

/-- Settles O54: a reset leaves SEQ empty. -/
theorem resetCutsATransmissionShort : Obligations.ResetCutsATransmissionShort := by
  unfold Obligations.ResetCutsATransmissionShort
  intro s hi _
  exact ⟨s.taken.applyReset, step_of hi, rfl, ticks_of_idle rfl⟩

/-- With the bit timings 0, only the reset Low is driven, whatever the bits are (R98). -/
theorem waveform_transmission_of_bit_timings_zero {cfg : SendCfg} (h0h : cfg.t0h = 0) (h0l : cfg.t0l = 0)
    (h1h : cfg.t1h = 0) (h1l : cfg.t1l = 0) : waveform cfg.transmission = List.replicate cfg.trst.toNat .low := by
  have hbits : waveform (cfg.bits.flatMap fun b => (cfg.bitPulse b).segments) = [] := by
    rw [← List.length_eq_zero_iff, length_waveform, totalTicks_bits]
    simp [h0h, h0l, h1h, h1l]
  rw [SendCfg.transmission, waveform_nonzero, pulses_segments, waveform_append, hbits]
  simp

/-- Settles O55: reset leaves the bit timings 0 and TRESET 800, and WR COLOR leaves both. -/
theorem sendAfterResetDrives800Low : Obligations.SendAfterResetDrives800Low := by
  unfold Obligations.SendAfterResetDrives800Low
  intro c
  have hlow : waveform (State.reset.setColor c).snapshot.transmission = List.replicate 800 .low :=
    waveform_transmission_of_bit_timings_zero rfl rfl rfl rfl
  have hticks := ticks_of_low_waveform (s := (State.reset.setColor c).setSeq _) (transmission_seqOk _) hlow
  exact ⟨_, _, rfl, exec_send_of_idle rfl, fun k => (hticks k).1, fun k => (hticks k).2⟩

/-! ### A host that makes legal accesses only -/

theorem inputAt_congr {s t : State} (h : t.inputs = s.inputs ∧ t.turn = s.turn) (k : Nat) : t.inputAt k = s.inputAt k := by
  obtain ⟨hinputs, hturn⟩ := h
  rw [State.inputAt, State.inputAt, hinputs, hturn]

/-- A step that serves a legal input goes on, with the inputs that were to come after it (R107, R134). -/
theorem step_of_legal {s : State} (h : s.nextInput.legal = true) :
    ∃ t, step s = .next t ∧ ∀ k, t.inputAt k = s.inputAt (k + 1) := by
  simp only [inputAt_succ]
  cases hi : s.nextInput with
  | tick => exact ⟨_, step_of hi, inputAt_tick _⟩
  | reset => exact ⟨_, step_of hi, inputAt_congr ⟨rfl, rfl⟩⟩
  | access desc data =>
    rw [hi] at h
    obtain ⟨i, hd⟩ := decodeBus_of_legal h data
    obtain ⟨t, ht, heffect⟩ := exec_effect i s.taken
    exact ⟨t, (step_of hi).trans ((serve_access_ok hd _).trans ht), inputAt_congr heffect.keeps_inputs⟩

/-- Settles O59, by induction on the number of steps: the inputs after a legal one are the next state's. -/
theorem legalHostNeverFaults : Obligations.LegalHostNeverFaults := by
  unfold Obligations.LegalHostNeverFaults
  intro s n hlegal
  induction n generalizing s with
  | zero => exact ⟨s, rfl⟩
  | succ n ih =>
    obtain ⟨t, hstep, hinputs⟩ := step_of_legal (inputAt_zero s ▸ hlegal 0 n.succ_pos)
    have hlegal' : t.LegalFor n := fun k hk => hinputs k ▸ hlegal (k + 1) (Nat.succ_lt_succ hk)
    obtain ⟨u, hrun⟩ := ih t hlegal'
    exact ⟨u, (run_succ_of_step (M := core) n hstep).trans hrun⟩

end Sys2Proof.Machine
end
